-- ==== Sys2Proof/Word.lean ====
section
/-! DEFINITION. The two word types of the machine: bytes and CPU addresses (`00_scope.md` R6: all
register, memory and address arithmetic wraps at its width). -/

namespace Sys2Proof

/-- A byte: every register of the data path and every memory cell (`10_state.md` R20, `20_memory.md` R74). -/
abbrev Byte := BitVec 8

/-- A CPU address (`20_memory.md` R60). -/
abbrev Addr := BitVec 16

end Sys2Proof
end

