-- ==== Sys2Proof/Syntax.lean ====
section
/-! DEFINITION. The instructions of the opcode table (`30_encoding.md` R110) with the operand bytes of
their formats (R101, R103): one constructor per row that has a meaning, its name the row's mnemonic and
format (the rows that share both carry their opcode in the name). The twelve STP rows and the RESERVED
rows of one format differ in nothing but the opcode, which is an argument there (`WellFormed.lean` checks
it): Lean's runtime takes at most 245 constructors with fields (log 16). -/

namespace Sys2Proof

inductive Instr
  | brk                               -- 0x00 BRK IMP
  | oraIzx (zp : Byte)                -- 0x01 ORA IZX
  | stp (op : Byte)                   -- STP IMP, 0x02 0x12 0x22 0x32 0x42 0x52 0x62 0x72 0x92 0xB2 0xD2 0xF2
  | sloIzx (zp : Byte)                -- 0x03 SLO IZX
  | nop04 (zp : Byte)                 -- 0x04 NOP ZP0
  | oraZp0 (zp : Byte)                -- 0x05 ORA ZP0
  | aslZp0 (zp : Byte)                -- 0x06 ASL ZP0
  | sloZp0 (zp : Byte)                -- 0x07 SLO ZP0
  | php                               -- 0x08 PHP IMP
  | oraImm (imm : Byte)               -- 0x09 ORA IMM
  | aslAcc                            -- 0x0A ASL ACC
  | anc0B (imm : Byte)                -- 0x0B ANC IMM
  | nop0C (w : Addr)                  -- 0x0C NOP ABS
  | oraAbs (w : Addr)                 -- 0x0D ORA ABS
  | aslAbs (w : Addr)                 -- 0x0E ASL ABS
  | sloAbs (w : Addr)                 -- 0x0F SLO ABS
  | bpl (rel : Byte)                  -- 0x10 BPL REL
  | oraIzy (zp : Byte)                -- 0x11 ORA IZY
  | sloIzy (zp : Byte)                -- 0x13 SLO IZY
  | nop14 (zp : Byte)                 -- 0x14 NOP ZPX
  | oraZpx (zp : Byte)                -- 0x15 ORA ZPX
  | aslZpx (zp : Byte)                -- 0x16 ASL ZPX
  | sloZpx (zp : Byte)                -- 0x17 SLO ZPX
  | clc                               -- 0x18 CLC IMP
  | oraAby (w : Addr)                 -- 0x19 ORA ABY
  | nop1A                             -- 0x1A NOP IMP
  | sloAby (w : Addr)                 -- 0x1B SLO ABY
  | nop1C (w : Addr)                  -- 0x1C NOP ABX
  | oraAbx (w : Addr)                 -- 0x1D ORA ABX
  | aslAbx (w : Addr)                 -- 0x1E ASL ABX
  | sloAbx (w : Addr)                 -- 0x1F SLO ABX
  | jsrAbs (w : Addr)                 -- 0x20 JSR ABS
  | andIzx (zp : Byte)                -- 0x21 AND IZX
  | rlaIzx (zp : Byte)                -- 0x23 RLA IZX
  | bitZp0 (zp : Byte)                -- 0x24 BIT ZP0
  | andZp0 (zp : Byte)                -- 0x25 AND ZP0
  | rolZp0 (zp : Byte)                -- 0x26 ROL ZP0
  | rlaZp0 (zp : Byte)                -- 0x27 RLA ZP0
  | plp                               -- 0x28 PLP IMP
  | andImm (imm : Byte)               -- 0x29 AND IMM
  | rolAcc                            -- 0x2A ROL ACC
  | anc2B (imm : Byte)                -- 0x2B ANC IMM
  | bitAbs (w : Addr)                 -- 0x2C BIT ABS
  | andAbs (w : Addr)                 -- 0x2D AND ABS
  | rolAbs (w : Addr)                 -- 0x2E ROL ABS
  | rlaAbs (w : Addr)                 -- 0x2F RLA ABS
  | bmi (rel : Byte)                  -- 0x30 BMI REL
  | andIzy (zp : Byte)                -- 0x31 AND IZY
  | rlaIzy (zp : Byte)                -- 0x33 RLA IZY
  | nop34 (zp : Byte)                 -- 0x34 NOP ZPX
  | andZpx (zp : Byte)                -- 0x35 AND ZPX
  | rolZpx (zp : Byte)                -- 0x36 ROL ZPX
  | rlaZpx (zp : Byte)                -- 0x37 RLA ZPX
  | sec                               -- 0x38 SEC IMP
  | andAby (w : Addr)                 -- 0x39 AND ABY
  | nop3A                             -- 0x3A NOP IMP
  | rlaAby (w : Addr)                 -- 0x3B RLA ABY
  | nop3C (w : Addr)                  -- 0x3C NOP ABX
  | andAbx (w : Addr)                 -- 0x3D AND ABX
  | rolAbx (w : Addr)                 -- 0x3E ROL ABX
  | rlaAbx (w : Addr)                 -- 0x3F RLA ABX
  | rti                               -- 0x40 RTI IMP
  | eorIzx (zp : Byte)                -- 0x41 EOR IZX
  | sreIzx (zp : Byte)                -- 0x43 SRE IZX
  | nop44 (zp : Byte)                 -- 0x44 NOP ZP0
  | eorZp0 (zp : Byte)                -- 0x45 EOR ZP0
  | lsrZp0 (zp : Byte)                -- 0x46 LSR ZP0
  | sreZp0 (zp : Byte)                -- 0x47 SRE ZP0
  | pha                               -- 0x48 PHA IMP
  | eorImm (imm : Byte)               -- 0x49 EOR IMM
  | lsrAcc                            -- 0x4A LSR ACC
  | alrImm (imm : Byte)               -- 0x4B ALR IMM
  | jmpAbs (w : Addr)                 -- 0x4C JMP ABS
  | eorAbs (w : Addr)                 -- 0x4D EOR ABS
  | lsrAbs (w : Addr)                 -- 0x4E LSR ABS
  | sreAbs (w : Addr)                 -- 0x4F SRE ABS
  | bvc (rel : Byte)                  -- 0x50 BVC REL
  | eorIzy (zp : Byte)                -- 0x51 EOR IZY
  | sreIzy (zp : Byte)                -- 0x53 SRE IZY
  | nop54 (zp : Byte)                 -- 0x54 NOP ZPX
  | eorZpx (zp : Byte)                -- 0x55 EOR ZPX
  | lsrZpx (zp : Byte)                -- 0x56 LSR ZPX
  | sreZpx (zp : Byte)                -- 0x57 SRE ZPX
  | cli                               -- 0x58 CLI IMP
  | eorAby (w : Addr)                 -- 0x59 EOR ABY
  | nop5A                             -- 0x5A NOP IMP
  | sreAby (w : Addr)                 -- 0x5B SRE ABY
  | nop5C (w : Addr)                  -- 0x5C NOP ABX
  | eorAbx (w : Addr)                 -- 0x5D EOR ABX
  | lsrAbx (w : Addr)                 -- 0x5E LSR ABX
  | sreAbx (w : Addr)                 -- 0x5F SRE ABX
  | rts                               -- 0x60 RTS IMP
  | adcIzx (zp : Byte)                -- 0x61 ADC IZX
  | rraIzx (zp : Byte)                -- 0x63 RRA IZX
  | nop64 (zp : Byte)                 -- 0x64 NOP ZP0
  | adcZp0 (zp : Byte)                -- 0x65 ADC ZP0
  | rorZp0 (zp : Byte)                -- 0x66 ROR ZP0
  | rraZp0 (zp : Byte)                -- 0x67 RRA ZP0
  | pla                               -- 0x68 PLA IMP
  | adcImm (imm : Byte)               -- 0x69 ADC IMM
  | rorAcc                            -- 0x6A ROR ACC
  | rsvImm (op : Byte) (imm : Byte)   -- RESERVED IMM, 0x6B 0x8B 0xAB 0xCB
  | jmpInd (w : Addr)                 -- 0x6C JMP IND
  | adcAbs (w : Addr)                 -- 0x6D ADC ABS
  | rorAbs (w : Addr)                 -- 0x6E ROR ABS
  | rraAbs (w : Addr)                 -- 0x6F RRA ABS
  | bvs (rel : Byte)                  -- 0x70 BVS REL
  | adcIzy (zp : Byte)                -- 0x71 ADC IZY
  | rraIzy (zp : Byte)                -- 0x73 RRA IZY
  | nop74 (zp : Byte)                 -- 0x74 NOP ZPX
  | adcZpx (zp : Byte)                -- 0x75 ADC ZPX
  | rorZpx (zp : Byte)                -- 0x76 ROR ZPX
  | rraZpx (zp : Byte)                -- 0x77 RRA ZPX
  | sei                               -- 0x78 SEI IMP
  | adcAby (w : Addr)                 -- 0x79 ADC ABY
  | nop7A                             -- 0x7A NOP IMP
  | rraAby (w : Addr)                 -- 0x7B RRA ABY
  | nop7C (w : Addr)                  -- 0x7C NOP ABX
  | adcAbx (w : Addr)                 -- 0x7D ADC ABX
  | rorAbx (w : Addr)                 -- 0x7E ROR ABX
  | rraAbx (w : Addr)                 -- 0x7F RRA ABX
  | nop80 (imm : Byte)                -- 0x80 NOP IMM
  | staIzx (zp : Byte)                -- 0x81 STA IZX
  | nop82 (imm : Byte)                -- 0x82 NOP IMM
  | saxIzx (zp : Byte)                -- 0x83 SAX IZX
  | styZp0 (zp : Byte)                -- 0x84 STY ZP0
  | staZp0 (zp : Byte)                -- 0x85 STA ZP0
  | stxZp0 (zp : Byte)                -- 0x86 STX ZP0
  | saxZp0 (zp : Byte)                -- 0x87 SAX ZP0
  | dey                               -- 0x88 DEY IMP
  | nop89 (imm : Byte)                -- 0x89 NOP IMM
  | txa                               -- 0x8A TXA IMP
  | styAbs (w : Addr)                 -- 0x8C STY ABS
  | staAbs (w : Addr)                 -- 0x8D STA ABS
  | stxAbs (w : Addr)                 -- 0x8E STX ABS
  | saxAbs (w : Addr)                 -- 0x8F SAX ABS
  | bcc (rel : Byte)                  -- 0x90 BCC REL
  | staIzy (zp : Byte)                -- 0x91 STA IZY
  | rsvIzy (zp : Byte)                -- RESERVED IZY, 0x93
  | styZpx (zp : Byte)                -- 0x94 STY ZPX
  | staZpx (zp : Byte)                -- 0x95 STA ZPX
  | stxZpy (zp : Byte)                -- 0x96 STX ZPY
  | saxZpy (zp : Byte)                -- 0x97 SAX ZPY
  | tya                               -- 0x98 TYA IMP
  | staAby (w : Addr)                 -- 0x99 STA ABY
  | txs                               -- 0x9A TXS IMP
  | rsvAby (op : Byte) (w : Addr)     -- RESERVED ABY, 0x9B 0x9E 0x9F 0xBB
  | rsvAbx (w : Addr)                 -- RESERVED ABX, 0x9C
  | staAbx (w : Addr)                 -- 0x9D STA ABX
  | ldyImm (imm : Byte)               -- 0xA0 LDY IMM
  | ldaIzx (zp : Byte)                -- 0xA1 LDA IZX
  | ldxImm (imm : Byte)               -- 0xA2 LDX IMM
  | laxIzx (zp : Byte)                -- 0xA3 LAX IZX
  | ldyZp0 (zp : Byte)                -- 0xA4 LDY ZP0
  | ldaZp0 (zp : Byte)                -- 0xA5 LDA ZP0
  | ldxZp0 (zp : Byte)                -- 0xA6 LDX ZP0
  | laxZp0 (zp : Byte)                -- 0xA7 LAX ZP0
  | tay                               -- 0xA8 TAY IMP
  | ldaImm (imm : Byte)               -- 0xA9 LDA IMM
  | tax                               -- 0xAA TAX IMP
  | ldyAbs (w : Addr)                 -- 0xAC LDY ABS
  | ldaAbs (w : Addr)                 -- 0xAD LDA ABS
  | ldxAbs (w : Addr)                 -- 0xAE LDX ABS
  | laxAbs (w : Addr)                 -- 0xAF LAX ABS
  | bcs (rel : Byte)                  -- 0xB0 BCS REL
  | ldaIzy (zp : Byte)                -- 0xB1 LDA IZY
  | laxIzy (zp : Byte)                -- 0xB3 LAX IZY
  | ldyZpx (zp : Byte)                -- 0xB4 LDY ZPX
  | ldaZpx (zp : Byte)                -- 0xB5 LDA ZPX
  | ldxZpy (zp : Byte)                -- 0xB6 LDX ZPY
  | laxZpy (zp : Byte)                -- 0xB7 LAX ZPY
  | clv                               -- 0xB8 CLV IMP
  | ldaAby (w : Addr)                 -- 0xB9 LDA ABY
  | tsx                               -- 0xBA TSX IMP
  | ldyAbx (w : Addr)                 -- 0xBC LDY ABX
  | ldaAbx (w : Addr)                 -- 0xBD LDA ABX
  | ldxAby (w : Addr)                 -- 0xBE LDX ABY
  | laxAby (w : Addr)                 -- 0xBF LAX ABY
  | cpyImm (imm : Byte)               -- 0xC0 CPY IMM
  | cmpIzx (zp : Byte)                -- 0xC1 CMP IZX
  | nopC2 (imm : Byte)                -- 0xC2 NOP IMM
  | dcpIzx (zp : Byte)                -- 0xC3 DCP IZX
  | cpyZp0 (zp : Byte)                -- 0xC4 CPY ZP0
  | cmpZp0 (zp : Byte)                -- 0xC5 CMP ZP0
  | decZp0 (zp : Byte)                -- 0xC6 DEC ZP0
  | dcpZp0 (zp : Byte)                -- 0xC7 DCP ZP0
  | iny                               -- 0xC8 INY IMP
  | cmpImm (imm : Byte)               -- 0xC9 CMP IMM
  | dex                               -- 0xCA DEX IMP
  | cpyAbs (w : Addr)                 -- 0xCC CPY ABS
  | cmpAbs (w : Addr)                 -- 0xCD CMP ABS
  | decAbs (w : Addr)                 -- 0xCE DEC ABS
  | dcpAbs (w : Addr)                 -- 0xCF DCP ABS
  | bne (rel : Byte)                  -- 0xD0 BNE REL
  | cmpIzy (zp : Byte)                -- 0xD1 CMP IZY
  | dcpIzy (zp : Byte)                -- 0xD3 DCP IZY
  | nopD4 (zp : Byte)                 -- 0xD4 NOP ZPX
  | cmpZpx (zp : Byte)                -- 0xD5 CMP ZPX
  | decZpx (zp : Byte)                -- 0xD6 DEC ZPX
  | dcpZpx (zp : Byte)                -- 0xD7 DCP ZPX
  | cld                               -- 0xD8 CLD IMP
  | cmpAby (w : Addr)                 -- 0xD9 CMP ABY
  | nopDA                             -- 0xDA NOP IMP
  | dcpAby (w : Addr)                 -- 0xDB DCP ABY
  | nopDC (w : Addr)                  -- 0xDC NOP ABX
  | cmpAbx (w : Addr)                 -- 0xDD CMP ABX
  | decAbx (w : Addr)                 -- 0xDE DEC ABX
  | dcpAbx (w : Addr)                 -- 0xDF DCP ABX
  | cpxImm (imm : Byte)               -- 0xE0 CPX IMM
  | sbcIzx (zp : Byte)                -- 0xE1 SBC IZX
  | nopE2 (imm : Byte)                -- 0xE2 NOP IMM
  | iscIzx (zp : Byte)                -- 0xE3 ISC IZX
  | cpxZp0 (zp : Byte)                -- 0xE4 CPX ZP0
  | sbcZp0 (zp : Byte)                -- 0xE5 SBC ZP0
  | incZp0 (zp : Byte)                -- 0xE6 INC ZP0
  | iscZp0 (zp : Byte)                -- 0xE7 ISC ZP0
  | inx                               -- 0xE8 INX IMP
  | sbcImm (imm : Byte)               -- 0xE9 SBC IMM
  | nop                               -- 0xEA NOP IMP
  | sbcEB (imm : Byte)                -- 0xEB SBC IMM
  | cpxAbs (w : Addr)                 -- 0xEC CPX ABS
  | sbcAbs (w : Addr)                 -- 0xED SBC ABS
  | incAbs (w : Addr)                 -- 0xEE INC ABS
  | iscAbs (w : Addr)                 -- 0xEF ISC ABS
  | beq (rel : Byte)                  -- 0xF0 BEQ REL
  | sbcIzy (zp : Byte)                -- 0xF1 SBC IZY
  | iscIzy (zp : Byte)                -- 0xF3 ISC IZY
  | nopF4 (zp : Byte)                 -- 0xF4 NOP ZPX
  | sbcZpx (zp : Byte)                -- 0xF5 SBC ZPX
  | incZpx (zp : Byte)                -- 0xF6 INC ZPX
  | iscZpx (zp : Byte)                -- 0xF7 ISC ZPX
  | sed                               -- 0xF8 SED IMP
  | sbcAby (w : Addr)                 -- 0xF9 SBC ABY
  | nopFA                             -- 0xFA NOP IMP
  | iscAby (w : Addr)                 -- 0xFB ISC ABY
  | nopFC (w : Addr)                  -- 0xFC NOP ABX
  | sbcAbx (w : Addr)                 -- 0xFD SBC ABX
  | incAbx (w : Addr)                 -- 0xFE INC ABX
  | iscAbx (w : Addr)                 -- 0xFF ISC ABX
  deriving DecidableEq, Repr

end Sys2Proof
end

