-- ==== Sys2Proof/WellFormed.lean ====
section
/-! DEFINITION. Well-formedness of an instruction, and of the ROM file a cartridge is built from. An
operand field takes every value of its width (`30_encoding.md` R103) and its type already has that width;
the opcode argument of the STP and RESERVED constructors is checked here. -/

namespace Sys2Proof

/-- The twelve STP opcodes (`30` R117). -/
def stpOpcodes : List Byte :=
  [0x02#8, 0x12#8, 0x22#8, 0x32#8, 0x42#8, 0x52#8, 0x62#8, 0x72#8, 0x92#8, 0xB2#8, 0xD2#8, 0xF2#8]

/-- The RESERVED opcodes of format IMM (`30` R118). -/
def rsvImmOpcodes : List Byte := [0x6B#8, 0x8B#8, 0xAB#8, 0xCB#8]

/-- The RESERVED opcodes of format ABY (`30` R118). -/
def rsvAbyOpcodes : List Byte := [0x9B#8, 0x9E#8, 0x9F#8, 0xBB#8]

/-- A term of `Instr` is a row of the table: an opcode argument is one of its class (`30` R117, R118).
Every other term is. -/
def Instr.wellFormed : Instr → Bool
  | .stp op => stpOpcodes.contains op
  | .rsvImm op _ => rsvImmOpcodes.contains op
  | .rsvAby op _ => rsvAbyOpcodes.contains op
  | _ => true

/-! ### The ROM file (`61_bus_mapper_dma.md` R450, R451) -/

/-- The file begins with the iNES signature (R450). -/
def romSignatureOk (f : List Byte) : Bool := f.take 4 == [0x4E#8, 0x45#8, 0x53#8, 0x1A#8]

/-- The mapper id of the header is 0 or 2 (R450, R451). -/
def romMapperOk (f : List Byte) : Bool :=
  let low := (f.getD 6 0#8).toNat / 16
  let high := (f.getD 7 0#8).toNat / 16
  high * 16 + low == 0 || high * 16 + low == 2

/-- At least one program bank (a precondition of R450). -/
def romProgramOk (f : List Byte) : Bool := decide (1 ≤ (f.getD 4 0#8).toNat)

/-- The file is as long as its header claims (a precondition of R450). -/
def romLengthOk (f : List Byte) : Bool :=
  decide (16 + (if (f.getD 6 0#8).getLsbD 2 then 512 else 0) + (f.getD 4 0#8).toNat * 16384
    + (f.getD 5 0#8).toNat * 8192 ≤ f.length)

/-- A ROM file that `LoadCartridge` builds a cartridge from (R450, R451). -/
def romWellFormed (f : List Byte) : Bool :=
  romSignatureOk f && romMapperOk f && romProgramOk f && romLengthOk f

end Sys2Proof
end

