-- ==== Sys2Proof/Decode.lean ====
section
/-! DEFINITION. The decoder, total on any bytes; after it the encoder; both from the opcode table of
`30_encoding.md` R110 and the formats of R101. Decode is a lookup by the opcode byte and nothing else
(R102, R104). -/

namespace Sys2Proof

/-! ### Byte order (`20_memory.md` R72) -/

/-- The low byte of a 16-bit value. -/
def loByte (w : Addr) : Byte := w.extractLsb' 0 8

/-- The high byte of a 16-bit value; `page(a)` of `00_scope.md` 6.1. -/
def hiByte (w : Addr) : Byte := w.extractLsb' 8 8

/-- `{hi, lo}`. -/
def wordOf (hi lo : Byte) : Addr := hi ++ lo

/-! ### The opcode table, one row of the 16 × 16 matrix of R110 at a time

An entry takes the two bytes after the opcode and uses as many as its format has. -/

/-- Opcodes 0x00 to 0x0F. -/
def opRow0 : List (Byte → Byte → Instr) :=
  [fun _ _ => .brk,
   fun b _ => .oraIzx b,
   fun _ _ => .stp 0x02#8,
   fun b _ => .sloIzx b,
   fun b _ => .nop04 b,
   fun b _ => .oraZp0 b,
   fun b _ => .aslZp0 b,
   fun b _ => .sloZp0 b,
   fun _ _ => .php,
   fun b _ => .oraImm b,
   fun _ _ => .aslAcc,
   fun b _ => .anc0B b,
   fun b c => .nop0C (wordOf c b),
   fun b c => .oraAbs (wordOf c b),
   fun b c => .aslAbs (wordOf c b),
   fun b c => .sloAbs (wordOf c b)]

/-- Opcodes 0x10 to 0x1F. -/
def opRow1 : List (Byte → Byte → Instr) :=
  [fun b _ => .bpl b,
   fun b _ => .oraIzy b,
   fun _ _ => .stp 0x12#8,
   fun b _ => .sloIzy b,
   fun b _ => .nop14 b,
   fun b _ => .oraZpx b,
   fun b _ => .aslZpx b,
   fun b _ => .sloZpx b,
   fun _ _ => .clc,
   fun b c => .oraAby (wordOf c b),
   fun _ _ => .nop1A,
   fun b c => .sloAby (wordOf c b),
   fun b c => .nop1C (wordOf c b),
   fun b c => .oraAbx (wordOf c b),
   fun b c => .aslAbx (wordOf c b),
   fun b c => .sloAbx (wordOf c b)]

/-- Opcodes 0x20 to 0x2F. -/
def opRow2 : List (Byte → Byte → Instr) :=
  [fun b c => .jsrAbs (wordOf c b),
   fun b _ => .andIzx b,
   fun _ _ => .stp 0x22#8,
   fun b _ => .rlaIzx b,
   fun b _ => .bitZp0 b,
   fun b _ => .andZp0 b,
   fun b _ => .rolZp0 b,
   fun b _ => .rlaZp0 b,
   fun _ _ => .plp,
   fun b _ => .andImm b,
   fun _ _ => .rolAcc,
   fun b _ => .anc2B b,
   fun b c => .bitAbs (wordOf c b),
   fun b c => .andAbs (wordOf c b),
   fun b c => .rolAbs (wordOf c b),
   fun b c => .rlaAbs (wordOf c b)]

/-- Opcodes 0x30 to 0x3F. -/
def opRow3 : List (Byte → Byte → Instr) :=
  [fun b _ => .bmi b,
   fun b _ => .andIzy b,
   fun _ _ => .stp 0x32#8,
   fun b _ => .rlaIzy b,
   fun b _ => .nop34 b,
   fun b _ => .andZpx b,
   fun b _ => .rolZpx b,
   fun b _ => .rlaZpx b,
   fun _ _ => .sec,
   fun b c => .andAby (wordOf c b),
   fun _ _ => .nop3A,
   fun b c => .rlaAby (wordOf c b),
   fun b c => .nop3C (wordOf c b),
   fun b c => .andAbx (wordOf c b),
   fun b c => .rolAbx (wordOf c b),
   fun b c => .rlaAbx (wordOf c b)]

/-- Opcodes 0x40 to 0x4F. -/
def opRow4 : List (Byte → Byte → Instr) :=
  [fun _ _ => .rti,
   fun b _ => .eorIzx b,
   fun _ _ => .stp 0x42#8,
   fun b _ => .sreIzx b,
   fun b _ => .nop44 b,
   fun b _ => .eorZp0 b,
   fun b _ => .lsrZp0 b,
   fun b _ => .sreZp0 b,
   fun _ _ => .pha,
   fun b _ => .eorImm b,
   fun _ _ => .lsrAcc,
   fun b _ => .alrImm b,
   fun b c => .jmpAbs (wordOf c b),
   fun b c => .eorAbs (wordOf c b),
   fun b c => .lsrAbs (wordOf c b),
   fun b c => .sreAbs (wordOf c b)]

/-- Opcodes 0x50 to 0x5F. -/
def opRow5 : List (Byte → Byte → Instr) :=
  [fun b _ => .bvc b,
   fun b _ => .eorIzy b,
   fun _ _ => .stp 0x52#8,
   fun b _ => .sreIzy b,
   fun b _ => .nop54 b,
   fun b _ => .eorZpx b,
   fun b _ => .lsrZpx b,
   fun b _ => .sreZpx b,
   fun _ _ => .cli,
   fun b c => .eorAby (wordOf c b),
   fun _ _ => .nop5A,
   fun b c => .sreAby (wordOf c b),
   fun b c => .nop5C (wordOf c b),
   fun b c => .eorAbx (wordOf c b),
   fun b c => .lsrAbx (wordOf c b),
   fun b c => .sreAbx (wordOf c b)]

/-- Opcodes 0x60 to 0x6F. -/
def opRow6 : List (Byte → Byte → Instr) :=
  [fun _ _ => .rts,
   fun b _ => .adcIzx b,
   fun _ _ => .stp 0x62#8,
   fun b _ => .rraIzx b,
   fun b _ => .nop64 b,
   fun b _ => .adcZp0 b,
   fun b _ => .rorZp0 b,
   fun b _ => .rraZp0 b,
   fun _ _ => .pla,
   fun b _ => .adcImm b,
   fun _ _ => .rorAcc,
   fun b _ => .rsvImm 0x6B#8 b,
   fun b c => .jmpInd (wordOf c b),
   fun b c => .adcAbs (wordOf c b),
   fun b c => .rorAbs (wordOf c b),
   fun b c => .rraAbs (wordOf c b)]

/-- Opcodes 0x70 to 0x7F. -/
def opRow7 : List (Byte → Byte → Instr) :=
  [fun b _ => .bvs b,
   fun b _ => .adcIzy b,
   fun _ _ => .stp 0x72#8,
   fun b _ => .rraIzy b,
   fun b _ => .nop74 b,
   fun b _ => .adcZpx b,
   fun b _ => .rorZpx b,
   fun b _ => .rraZpx b,
   fun _ _ => .sei,
   fun b c => .adcAby (wordOf c b),
   fun _ _ => .nop7A,
   fun b c => .rraAby (wordOf c b),
   fun b c => .nop7C (wordOf c b),
   fun b c => .adcAbx (wordOf c b),
   fun b c => .rorAbx (wordOf c b),
   fun b c => .rraAbx (wordOf c b)]

/-- Opcodes 0x80 to 0x8F. -/
def opRow8 : List (Byte → Byte → Instr) :=
  [fun b _ => .nop80 b,
   fun b _ => .staIzx b,
   fun b _ => .nop82 b,
   fun b _ => .saxIzx b,
   fun b _ => .styZp0 b,
   fun b _ => .staZp0 b,
   fun b _ => .stxZp0 b,
   fun b _ => .saxZp0 b,
   fun _ _ => .dey,
   fun b _ => .nop89 b,
   fun _ _ => .txa,
   fun b _ => .rsvImm 0x8B#8 b,
   fun b c => .styAbs (wordOf c b),
   fun b c => .staAbs (wordOf c b),
   fun b c => .stxAbs (wordOf c b),
   fun b c => .saxAbs (wordOf c b)]

/-- Opcodes 0x90 to 0x9F. -/
def opRow9 : List (Byte → Byte → Instr) :=
  [fun b _ => .bcc b,
   fun b _ => .staIzy b,
   fun _ _ => .stp 0x92#8,
   fun b _ => .rsvIzy b,
   fun b _ => .styZpx b,
   fun b _ => .staZpx b,
   fun b _ => .stxZpy b,
   fun b _ => .saxZpy b,
   fun _ _ => .tya,
   fun b c => .staAby (wordOf c b),
   fun _ _ => .txs,
   fun b c => .rsvAby 0x9B#8 (wordOf c b),
   fun b c => .rsvAbx (wordOf c b),
   fun b c => .staAbx (wordOf c b),
   fun b c => .rsvAby 0x9E#8 (wordOf c b),
   fun b c => .rsvAby 0x9F#8 (wordOf c b)]

/-- Opcodes 0xA0 to 0xAF. -/
def opRowA : List (Byte → Byte → Instr) :=
  [fun b _ => .ldyImm b,
   fun b _ => .ldaIzx b,
   fun b _ => .ldxImm b,
   fun b _ => .laxIzx b,
   fun b _ => .ldyZp0 b,
   fun b _ => .ldaZp0 b,
   fun b _ => .ldxZp0 b,
   fun b _ => .laxZp0 b,
   fun _ _ => .tay,
   fun b _ => .ldaImm b,
   fun _ _ => .tax,
   fun b _ => .rsvImm 0xAB#8 b,
   fun b c => .ldyAbs (wordOf c b),
   fun b c => .ldaAbs (wordOf c b),
   fun b c => .ldxAbs (wordOf c b),
   fun b c => .laxAbs (wordOf c b)]

/-- Opcodes 0xB0 to 0xBF. -/
def opRowB : List (Byte → Byte → Instr) :=
  [fun b _ => .bcs b,
   fun b _ => .ldaIzy b,
   fun _ _ => .stp 0xB2#8,
   fun b _ => .laxIzy b,
   fun b _ => .ldyZpx b,
   fun b _ => .ldaZpx b,
   fun b _ => .ldxZpy b,
   fun b _ => .laxZpy b,
   fun _ _ => .clv,
   fun b c => .ldaAby (wordOf c b),
   fun _ _ => .tsx,
   fun b c => .rsvAby 0xBB#8 (wordOf c b),
   fun b c => .ldyAbx (wordOf c b),
   fun b c => .ldaAbx (wordOf c b),
   fun b c => .ldxAby (wordOf c b),
   fun b c => .laxAby (wordOf c b)]

/-- Opcodes 0xC0 to 0xCF. -/
def opRowC : List (Byte → Byte → Instr) :=
  [fun b _ => .cpyImm b,
   fun b _ => .cmpIzx b,
   fun b _ => .nopC2 b,
   fun b _ => .dcpIzx b,
   fun b _ => .cpyZp0 b,
   fun b _ => .cmpZp0 b,
   fun b _ => .decZp0 b,
   fun b _ => .dcpZp0 b,
   fun _ _ => .iny,
   fun b _ => .cmpImm b,
   fun _ _ => .dex,
   fun b _ => .rsvImm 0xCB#8 b,
   fun b c => .cpyAbs (wordOf c b),
   fun b c => .cmpAbs (wordOf c b),
   fun b c => .decAbs (wordOf c b),
   fun b c => .dcpAbs (wordOf c b)]

/-- Opcodes 0xD0 to 0xDF. -/
def opRowD : List (Byte → Byte → Instr) :=
  [fun b _ => .bne b,
   fun b _ => .cmpIzy b,
   fun _ _ => .stp 0xD2#8,
   fun b _ => .dcpIzy b,
   fun b _ => .nopD4 b,
   fun b _ => .cmpZpx b,
   fun b _ => .decZpx b,
   fun b _ => .dcpZpx b,
   fun _ _ => .cld,
   fun b c => .cmpAby (wordOf c b),
   fun _ _ => .nopDA,
   fun b c => .dcpAby (wordOf c b),
   fun b c => .nopDC (wordOf c b),
   fun b c => .cmpAbx (wordOf c b),
   fun b c => .decAbx (wordOf c b),
   fun b c => .dcpAbx (wordOf c b)]

/-- Opcodes 0xE0 to 0xEF. -/
def opRowE : List (Byte → Byte → Instr) :=
  [fun b _ => .cpxImm b,
   fun b _ => .sbcIzx b,
   fun b _ => .nopE2 b,
   fun b _ => .iscIzx b,
   fun b _ => .cpxZp0 b,
   fun b _ => .sbcZp0 b,
   fun b _ => .incZp0 b,
   fun b _ => .iscZp0 b,
   fun _ _ => .inx,
   fun b _ => .sbcImm b,
   fun _ _ => .nop,
   fun b _ => .sbcEB b,
   fun b c => .cpxAbs (wordOf c b),
   fun b c => .sbcAbs (wordOf c b),
   fun b c => .incAbs (wordOf c b),
   fun b c => .iscAbs (wordOf c b)]

/-- Opcodes 0xF0 to 0xFF. -/
def opRowF : List (Byte → Byte → Instr) :=
  [fun b _ => .beq b,
   fun b _ => .sbcIzy b,
   fun _ _ => .stp 0xF2#8,
   fun b _ => .iscIzy b,
   fun b _ => .nopF4 b,
   fun b _ => .sbcZpx b,
   fun b _ => .incZpx b,
   fun b _ => .iscZpx b,
   fun _ _ => .sed,
   fun b c => .sbcAby (wordOf c b),
   fun _ _ => .nopFA,
   fun b c => .iscAby (wordOf c b),
   fun b c => .nopFC (wordOf c b),
   fun b c => .sbcAbx (wordOf c b),
   fun b c => .incAbx (wordOf c b),
   fun b c => .iscAbx (wordOf c b)]

/-- The 256 entries of `TABLE` (R104, R110). -/
def opTable : List (Byte → Byte → Instr) :=
  opRow0 ++ opRow1 ++ opRow2 ++ opRow3 ++ opRow4 ++ opRow5 ++ opRow6 ++ opRow7
    ++ opRow8 ++ opRow9 ++ opRowA ++ opRowB ++ opRowC ++ opRowD ++ opRowE ++ opRowF

/-- The instruction of an opcode byte and the two bytes after it. The table has an entry for every
opcode byte (R104), so the fallback is never taken. -/
def decodeBytes (op b c : Byte) : Instr := opTable.getD op.toNat (fun _ _ => .stp op) b c

/-! ### The encoder -/

/-- The bytes of an instruction, the first at the lowest address (R100, R101). -/
def encode : Instr → List Byte
  | .brk => [0x00#8]
  | .oraIzx b => [0x01#8, b]
  | .stp op => [op]
  | .sloIzx b => [0x03#8, b]
  | .nop04 b => [0x04#8, b]
  | .oraZp0 b => [0x05#8, b]
  | .aslZp0 b => [0x06#8, b]
  | .sloZp0 b => [0x07#8, b]
  | .php => [0x08#8]
  | .oraImm b => [0x09#8, b]
  | .aslAcc => [0x0A#8]
  | .anc0B b => [0x0B#8, b]
  | .nop0C w => [0x0C#8, loByte w, hiByte w]
  | .oraAbs w => [0x0D#8, loByte w, hiByte w]
  | .aslAbs w => [0x0E#8, loByte w, hiByte w]
  | .sloAbs w => [0x0F#8, loByte w, hiByte w]
  | .bpl b => [0x10#8, b]
  | .oraIzy b => [0x11#8, b]
  | .sloIzy b => [0x13#8, b]
  | .nop14 b => [0x14#8, b]
  | .oraZpx b => [0x15#8, b]
  | .aslZpx b => [0x16#8, b]
  | .sloZpx b => [0x17#8, b]
  | .clc => [0x18#8]
  | .oraAby w => [0x19#8, loByte w, hiByte w]
  | .nop1A => [0x1A#8]
  | .sloAby w => [0x1B#8, loByte w, hiByte w]
  | .nop1C w => [0x1C#8, loByte w, hiByte w]
  | .oraAbx w => [0x1D#8, loByte w, hiByte w]
  | .aslAbx w => [0x1E#8, loByte w, hiByte w]
  | .sloAbx w => [0x1F#8, loByte w, hiByte w]
  | .jsrAbs w => [0x20#8, loByte w, hiByte w]
  | .andIzx b => [0x21#8, b]
  | .rlaIzx b => [0x23#8, b]
  | .bitZp0 b => [0x24#8, b]
  | .andZp0 b => [0x25#8, b]
  | .rolZp0 b => [0x26#8, b]
  | .rlaZp0 b => [0x27#8, b]
  | .plp => [0x28#8]
  | .andImm b => [0x29#8, b]
  | .rolAcc => [0x2A#8]
  | .anc2B b => [0x2B#8, b]
  | .bitAbs w => [0x2C#8, loByte w, hiByte w]
  | .andAbs w => [0x2D#8, loByte w, hiByte w]
  | .rolAbs w => [0x2E#8, loByte w, hiByte w]
  | .rlaAbs w => [0x2F#8, loByte w, hiByte w]
  | .bmi b => [0x30#8, b]
  | .andIzy b => [0x31#8, b]
  | .rlaIzy b => [0x33#8, b]
  | .nop34 b => [0x34#8, b]
  | .andZpx b => [0x35#8, b]
  | .rolZpx b => [0x36#8, b]
  | .rlaZpx b => [0x37#8, b]
  | .sec => [0x38#8]
  | .andAby w => [0x39#8, loByte w, hiByte w]
  | .nop3A => [0x3A#8]
  | .rlaAby w => [0x3B#8, loByte w, hiByte w]
  | .nop3C w => [0x3C#8, loByte w, hiByte w]
  | .andAbx w => [0x3D#8, loByte w, hiByte w]
  | .rolAbx w => [0x3E#8, loByte w, hiByte w]
  | .rlaAbx w => [0x3F#8, loByte w, hiByte w]
  | .rti => [0x40#8]
  | .eorIzx b => [0x41#8, b]
  | .sreIzx b => [0x43#8, b]
  | .nop44 b => [0x44#8, b]
  | .eorZp0 b => [0x45#8, b]
  | .lsrZp0 b => [0x46#8, b]
  | .sreZp0 b => [0x47#8, b]
  | .pha => [0x48#8]
  | .eorImm b => [0x49#8, b]
  | .lsrAcc => [0x4A#8]
  | .alrImm b => [0x4B#8, b]
  | .jmpAbs w => [0x4C#8, loByte w, hiByte w]
  | .eorAbs w => [0x4D#8, loByte w, hiByte w]
  | .lsrAbs w => [0x4E#8, loByte w, hiByte w]
  | .sreAbs w => [0x4F#8, loByte w, hiByte w]
  | .bvc b => [0x50#8, b]
  | .eorIzy b => [0x51#8, b]
  | .sreIzy b => [0x53#8, b]
  | .nop54 b => [0x54#8, b]
  | .eorZpx b => [0x55#8, b]
  | .lsrZpx b => [0x56#8, b]
  | .sreZpx b => [0x57#8, b]
  | .cli => [0x58#8]
  | .eorAby w => [0x59#8, loByte w, hiByte w]
  | .nop5A => [0x5A#8]
  | .sreAby w => [0x5B#8, loByte w, hiByte w]
  | .nop5C w => [0x5C#8, loByte w, hiByte w]
  | .eorAbx w => [0x5D#8, loByte w, hiByte w]
  | .lsrAbx w => [0x5E#8, loByte w, hiByte w]
  | .sreAbx w => [0x5F#8, loByte w, hiByte w]
  | .rts => [0x60#8]
  | .adcIzx b => [0x61#8, b]
  | .rraIzx b => [0x63#8, b]
  | .nop64 b => [0x64#8, b]
  | .adcZp0 b => [0x65#8, b]
  | .rorZp0 b => [0x66#8, b]
  | .rraZp0 b => [0x67#8, b]
  | .pla => [0x68#8]
  | .adcImm b => [0x69#8, b]
  | .rorAcc => [0x6A#8]
  | .rsvImm op b => [op, b]
  | .jmpInd w => [0x6C#8, loByte w, hiByte w]
  | .adcAbs w => [0x6D#8, loByte w, hiByte w]
  | .rorAbs w => [0x6E#8, loByte w, hiByte w]
  | .rraAbs w => [0x6F#8, loByte w, hiByte w]
  | .bvs b => [0x70#8, b]
  | .adcIzy b => [0x71#8, b]
  | .rraIzy b => [0x73#8, b]
  | .nop74 b => [0x74#8, b]
  | .adcZpx b => [0x75#8, b]
  | .rorZpx b => [0x76#8, b]
  | .rraZpx b => [0x77#8, b]
  | .sei => [0x78#8]
  | .adcAby w => [0x79#8, loByte w, hiByte w]
  | .nop7A => [0x7A#8]
  | .rraAby w => [0x7B#8, loByte w, hiByte w]
  | .nop7C w => [0x7C#8, loByte w, hiByte w]
  | .adcAbx w => [0x7D#8, loByte w, hiByte w]
  | .rorAbx w => [0x7E#8, loByte w, hiByte w]
  | .rraAbx w => [0x7F#8, loByte w, hiByte w]
  | .nop80 b => [0x80#8, b]
  | .staIzx b => [0x81#8, b]
  | .nop82 b => [0x82#8, b]
  | .saxIzx b => [0x83#8, b]
  | .styZp0 b => [0x84#8, b]
  | .staZp0 b => [0x85#8, b]
  | .stxZp0 b => [0x86#8, b]
  | .saxZp0 b => [0x87#8, b]
  | .dey => [0x88#8]
  | .nop89 b => [0x89#8, b]
  | .txa => [0x8A#8]
  | .styAbs w => [0x8C#8, loByte w, hiByte w]
  | .staAbs w => [0x8D#8, loByte w, hiByte w]
  | .stxAbs w => [0x8E#8, loByte w, hiByte w]
  | .saxAbs w => [0x8F#8, loByte w, hiByte w]
  | .bcc b => [0x90#8, b]
  | .staIzy b => [0x91#8, b]
  | .rsvIzy b => [0x93#8, b]
  | .styZpx b => [0x94#8, b]
  | .staZpx b => [0x95#8, b]
  | .stxZpy b => [0x96#8, b]
  | .saxZpy b => [0x97#8, b]
  | .tya => [0x98#8]
  | .staAby w => [0x99#8, loByte w, hiByte w]
  | .txs => [0x9A#8]
  | .rsvAby op w => [op, loByte w, hiByte w]
  | .rsvAbx w => [0x9C#8, loByte w, hiByte w]
  | .staAbx w => [0x9D#8, loByte w, hiByte w]
  | .ldyImm b => [0xA0#8, b]
  | .ldaIzx b => [0xA1#8, b]
  | .ldxImm b => [0xA2#8, b]
  | .laxIzx b => [0xA3#8, b]
  | .ldyZp0 b => [0xA4#8, b]
  | .ldaZp0 b => [0xA5#8, b]
  | .ldxZp0 b => [0xA6#8, b]
  | .laxZp0 b => [0xA7#8, b]
  | .tay => [0xA8#8]
  | .ldaImm b => [0xA9#8, b]
  | .tax => [0xAA#8]
  | .ldyAbs w => [0xAC#8, loByte w, hiByte w]
  | .ldaAbs w => [0xAD#8, loByte w, hiByte w]
  | .ldxAbs w => [0xAE#8, loByte w, hiByte w]
  | .laxAbs w => [0xAF#8, loByte w, hiByte w]
  | .bcs b => [0xB0#8, b]
  | .ldaIzy b => [0xB1#8, b]
  | .laxIzy b => [0xB3#8, b]
  | .ldyZpx b => [0xB4#8, b]
  | .ldaZpx b => [0xB5#8, b]
  | .ldxZpy b => [0xB6#8, b]
  | .laxZpy b => [0xB7#8, b]
  | .clv => [0xB8#8]
  | .ldaAby w => [0xB9#8, loByte w, hiByte w]
  | .tsx => [0xBA#8]
  | .ldyAbx w => [0xBC#8, loByte w, hiByte w]
  | .ldaAbx w => [0xBD#8, loByte w, hiByte w]
  | .ldxAby w => [0xBE#8, loByte w, hiByte w]
  | .laxAby w => [0xBF#8, loByte w, hiByte w]
  | .cpyImm b => [0xC0#8, b]
  | .cmpIzx b => [0xC1#8, b]
  | .nopC2 b => [0xC2#8, b]
  | .dcpIzx b => [0xC3#8, b]
  | .cpyZp0 b => [0xC4#8, b]
  | .cmpZp0 b => [0xC5#8, b]
  | .decZp0 b => [0xC6#8, b]
  | .dcpZp0 b => [0xC7#8, b]
  | .iny => [0xC8#8]
  | .cmpImm b => [0xC9#8, b]
  | .dex => [0xCA#8]
  | .cpyAbs w => [0xCC#8, loByte w, hiByte w]
  | .cmpAbs w => [0xCD#8, loByte w, hiByte w]
  | .decAbs w => [0xCE#8, loByte w, hiByte w]
  | .dcpAbs w => [0xCF#8, loByte w, hiByte w]
  | .bne b => [0xD0#8, b]
  | .cmpIzy b => [0xD1#8, b]
  | .dcpIzy b => [0xD3#8, b]
  | .nopD4 b => [0xD4#8, b]
  | .cmpZpx b => [0xD5#8, b]
  | .decZpx b => [0xD6#8, b]
  | .dcpZpx b => [0xD7#8, b]
  | .cld => [0xD8#8]
  | .cmpAby w => [0xD9#8, loByte w, hiByte w]
  | .nopDA => [0xDA#8]
  | .dcpAby w => [0xDB#8, loByte w, hiByte w]
  | .nopDC w => [0xDC#8, loByte w, hiByte w]
  | .cmpAbx w => [0xDD#8, loByte w, hiByte w]
  | .decAbx w => [0xDE#8, loByte w, hiByte w]
  | .dcpAbx w => [0xDF#8, loByte w, hiByte w]
  | .cpxImm b => [0xE0#8, b]
  | .sbcIzx b => [0xE1#8, b]
  | .nopE2 b => [0xE2#8, b]
  | .iscIzx b => [0xE3#8, b]
  | .cpxZp0 b => [0xE4#8, b]
  | .sbcZp0 b => [0xE5#8, b]
  | .incZp0 b => [0xE6#8, b]
  | .iscZp0 b => [0xE7#8, b]
  | .inx => [0xE8#8]
  | .sbcImm b => [0xE9#8, b]
  | .nop => [0xEA#8]
  | .sbcEB b => [0xEB#8, b]
  | .cpxAbs w => [0xEC#8, loByte w, hiByte w]
  | .sbcAbs w => [0xED#8, loByte w, hiByte w]
  | .incAbs w => [0xEE#8, loByte w, hiByte w]
  | .iscAbs w => [0xEF#8, loByte w, hiByte w]
  | .beq b => [0xF0#8, b]
  | .sbcIzy b => [0xF1#8, b]
  | .iscIzy b => [0xF3#8, b]
  | .nopF4 b => [0xF4#8, b]
  | .sbcZpx b => [0xF5#8, b]
  | .incZpx b => [0xF6#8, b]
  | .iscZpx b => [0xF7#8, b]
  | .sed => [0xF8#8]
  | .sbcAby w => [0xF9#8, loByte w, hiByte w]
  | .nopFA => [0xFA#8]
  | .iscAby w => [0xFB#8, loByte w, hiByte w]
  | .nopFC w => [0xFC#8, loByte w, hiByte w]
  | .sbcAbx w => [0xFD#8, loByte w, hiByte w]
  | .incAbx w => [0xFE#8, loByte w, hiByte w]
  | .iscAbx w => [0xFF#8, loByte w, hiByte w]

/-! ### Decoding a sequence of bytes -/

/-- An instruction's length in bytes: its opcode byte alone decides (R100). -/
def instrLength (op : Byte) : Nat := (encode (decodeBytes op 0#8 0#8)).length

/-- The immediate rows whose operand byte the machine never reads: the resolver of IMM reads nothing and
these bodies have no `MemRead` (`40` R142, R153; `46` R330, R333). -/
def operandUnread (op : Byte) : Bool :=
  [0x6B#8, 0x80#8, 0x82#8, 0x89#8, 0x8B#8, 0xAB#8, 0xC2#8, 0xCB#8, 0xE2#8].contains op

/-- Why a sequence of bytes is no instruction: it ends before the instruction does. No opcode is
refused (R104). -/
inductive DecodeError
  | truncated (needed given : Nat)
  deriving DecidableEq, Repr

/-- The first instruction of a sequence of bytes, and the rest of the sequence. -/
def decode (bs : List Byte) : Except DecodeError (Instr × List Byte) :=
  match bs with
  | [] => .error (.truncated 1 0)
  | op :: rest =>
    if rest.length + 1 < instrLength op then
      .error (.truncated (instrLength op) (rest.length + 1))
    else .ok (decodeBytes op (rest.getD 0 0#8) (rest.getD 1 0#8), rest.drop (instrLength op - 1))

/-- The three bytes of an instruction whose bits are `w`, numbered as `spec/opcode_table.json` numbers
them (bit 0 the least significant bit of the first byte); the bits above `nbits` are 0. -/
def tableBytes (nbits w : Nat) : List Byte :=
  let v := w % 2 ^ nbits
  [BitVec.ofNat 8 v, BitVec.ofNat 8 (v / 256), BitVec.ofNat 8 (v / 65536)]

/-- The instruction the decoder reads from such a word. -/
def decodeTableWord (nbits w : Nat) : Option Instr :=
  match decode (tableBytes nbits w) with
  | .ok (i, _) => some i
  | .error _ => none

end Sys2Proof
end

