-- ==== Sys2Proof/Config.lean ====
section
/-! DEFINITION. The implementation parameters of `00_scope.md` R3, and the free values: constants
with no body, of which nothing can be proved (logs 7 and 8). -/

namespace Sys2Proof.Config

/-- `STACK_BASE`: the fixed 256-byte stack page (R3, `10_state.md` R21). -/
def stackBase : Addr := 0x0100#16

/-- `SP_RESET`: the stack pointer after reset (R3, `70_reset_and_hazards.md` R661). -/
def spReset : Byte := 0xFD#8

/-- `RESET_VECTOR`: address of the low byte of the reset vector (R3, `20_memory.md` R71). -/
def resetVector : Addr := 0xFFFC#16

/-- `NMI_VECTOR` (R3, `20_memory.md` R71). -/
def nmiVector : Addr := 0xFFFA#16

/-- `IRQ_VECTOR`: the vector of IRQ and BRK (R3, `20_memory.md` R71). -/
def irqVector : Addr := 0xFFFE#16

/-- `RESET_CYCLES`, charged by `reset()` (R3). -/
def resetCycles : Nat := 8

/-- `IRQ_CYCLES`, charged by `irq()` (R3). -/
def irqCycles : Nat := 7

/-- `NMI_CYCLES`, charged by `nmi()` (R3). -/
def nmiCycles : Nat := 8

/-- `CPU_DIVIDER`: master ticks per processor slot (R3). -/
def cpuDivider : Nat := 3

/-- `APU_DIVIDER`: master ticks per clock of the audio collaborator (R3). -/
def apuDivider : Nat := 6

/-- `CPU_PHASE`: the residue of the master counter at which the processor slot falls (R3, D20). -/
def cpuPhase : Nat := 0

/-- `PPU_CYCLES`: cycles per scanline (R3). -/
def ppuCycles : Nat := 341

/-- `PPU_SCANLINES`: scanlines per frame (R3). -/
def ppuScanlines : Nat := 262

/-- Bytes of one program bank (R3, `PRG_BANKS`). -/
def prgBankBytes : Nat := 16384

/-- Bytes of one pattern bank (R3, `CHR_BANKS`). -/
def chrBankBytes : Nat := 8192

/-- `MAPPER_ID_FIXED` (R3, `61_bus_mapper_dma.md` R451). -/
def mapperIdFixed : Nat := 0

/-- `MAPPER_ID_SWITCHABLE` (R3, `61_bus_mapper_dma.md` R451). -/
def mapperIdSwitchable : Nat := 2

/-- FREE VALUE. Bits 4:0 of the `n`-th drawn status read: `93_implementation_defined.md` U3, "any
value" (log 7). -/
opaque statusLow : Nat → BitVec 5

/-- FREE VALUE. `CollabRead`: what an excluded collaborator answers to a read of a window address; the
first argument numbers the draws, since two reads of one address need not agree
(`93_implementation_defined.md` U5, log 8). -/
opaque collabRead : Nat → Addr → Byte

end Sys2Proof.Config
end

