-- ==== Sys2Proof/Machine/State.lean ====
section
/-! DEFINITION. The state of the whole machine as plain data, the reasons it stops, and the state after
reset (`10_state.md`, `70_reset_and_hazards.md` R660). -/

namespace Sys2Proof.Machine

/-- The contents of one memory: address and byte pairs, addresses strictly rising, no entry equal to
what an unlisted address reads as (`Memory.wf` in `Machine/Memory.lean`). -/
abbrev Memory := List Host.Cell

/-- The nametable wiring of the cartridge (`10_state.md` R33). -/
inductive Mirroring
  | horizontal
  | vertical
  deriving DecidableEq, Repr

/-- The mapper strategy, a sum type of the two variants the spec gives (`61_bus_mapper_dma.md` R468).
The bank register exists only in the switchable one (`10_state.md` R35). -/
inductive Mapper
  | fixed
  | switchable (bank : BitVec 4)
  deriving DecidableEq, Repr

/-- The cartridge: its immutable header, its mapper, program and pattern memory (`10_state.md` R33 to
R35). -/
structure Cartridge where
  prgBanks  : Nat
  chrBanks  : Nat
  trainer   : Bool
  mirroring : Mirroring
  mapper    : Mapper
  prg       : Memory
  chr       : Memory
  deriving DecidableEq, Repr

/-- The OAM-DMA sub-state (`10_state.md` R31). -/
structure Dma where
  page   : Byte
  offset : Byte
  active : Bool
  align  : Bool
  data   : Byte
  deriving DecidableEq, Repr

/-- The picture processor (`10_state.md` R36 to R53). `v` and `t` are the 15 field bits of the two
loopy registers (`90_conflicts.md` C2, log 13). `frame` is the list of the 240 rows of the frame
buffer. -/
structure Ppu where
  cycle      : Nat
  scanline   : Int
  v          : BitVec 15
  t          : BitVec 15
  fineX      : Byte
  w          : Bool
  dataBuffer : Byte
  ctrl       : Byte
  mask       : Byte
  vblank     : Bool
  spr0hit    : Bool
  sprovf     : Bool
  oamAddr    : Byte
  oam        : Memory
  nt0        : Memory
  nt1        : Memory
  pal        : Memory
  shPatLo    : BitVec 16
  shPatHi    : BitVec 16
  shAttLo    : BitVec 16
  shAttHi    : BitVec 16
  nxId       : Byte
  nxAtt      : BitVec 2
  nxLo       : Byte
  nxHi       : Byte
  sprList    : List (Fin 64)
  nmiRequest : Bool
  frame      : List Memory
  deriving DecidableEq, Repr

/-- What the host asks for at one tick boundary: the request inputs `reset_req` and `irq_req` of
`60_exceptions.md` R421 (log 9). -/
structure Request where
  reset : Bool
  irq   : Bool
  deriving DecidableEq, Repr

/-- The whole machine. `requests` and `draws` are the model's own fields: the inputs of the coming tick
boundaries (log 9), and the number of free values drawn so far (logs 7 and 8). `jammed` is the stuck
state of `raise Jam` (log 5). -/
structure State where
  a        : Byte
  x        : Byte
  y        : Byte
  sp       : Byte
  pc       : Addr
  p        : Byte
  cycles   : Nat
  jammed   : Bool
  ram      : Memory
  dma      : Dma
  master   : Nat
  cart     : Cartridge
  ppu      : Ppu
  requests : List Request
  draws    : Nat
  deriving DecidableEq, Repr

/-- The load-time fatal errors of `60_exceptions.md` R402, class 1. No step of a running machine raises
one: the machine has no synchronous exception and no faulting access (R400, R401). -/
inductive Fault
  /-- Raised by `loadCartridge` on a file without the iNES signature (R402, R450). Safe: no machine is
  built. -/
  | badSignature
  /-- Raised by `loadCartridge` on a mapper id that is neither of the two (R402, R451). Safe: no machine
  is built. -/
  | unknownMapper
  deriving DecidableEq, Repr

/-- The cases the spec gives no rule for. -/
inductive Refusal
  /-- An instruction that has no meaning yet, by its mnemonic. Safe. No arm of `exec` raises it. -/
  | notModelled (mnemonic : String)
  /-- Raised by `loadCartridge` on a file shorter than its header claims: U6, "refuse" (log 15). Safe. -/
  | shortFile
  /-- Raised by `loadCartridge` on `PRG_BANKS = 0`: U6, "refuse" (log 15). Safe. -/
  | noProgramBank
  deriving DecidableEq, Repr

/-- The outcome of an instruction or of a step. -/
abbrev Out := Host.Outcome State Fault Refusal

/-! ### One update per field -/

def State.setA (s : State) (v : Byte) : State := { s with a := v }
def State.setX (s : State) (v : Byte) : State := { s with x := v }
def State.setY (s : State) (v : Byte) : State := { s with y := v }
def State.setSp (s : State) (v : Byte) : State := { s with sp := v }
def State.setPc (s : State) (v : Addr) : State := { s with pc := v }
def State.setP (s : State) (v : Byte) : State := { s with p := v }
def State.setCycles (s : State) (v : Nat) : State := { s with cycles := v }
def State.setJammed (s : State) (v : Bool) : State := { s with jammed := v }
def State.setRam (s : State) (v : Memory) : State := { s with ram := v }
def State.setDma (s : State) (v : Dma) : State := { s with dma := v }
def State.setMaster (s : State) (v : Nat) : State := { s with master := v }
def State.setCart (s : State) (v : Cartridge) : State := { s with cart := v }
def State.setPpu (s : State) (v : Ppu) : State := { s with ppu := v }
def State.setRequests (s : State) (v : List Request) : State := { s with requests := v }
def State.setDraws (s : State) (v : Nat) : State := { s with draws := v }

/-! ### Reset -/

/-- The DMA sub-state after reset (`10_state.md` R31, D32). -/
def Dma.reset : Dma := { page := 0, offset := 0, active := false, align := true, data := 0 }

/-- The picture processor after reset, with the memories that reset leaves unchanged at what an empty
list reads as (`70_reset_and_hazards.md` R660; power-on contents: log 1). -/
def Ppu.reset : Ppu :=
  { cycle := 0, scanline := 0, v := 0, t := 0, fineX := 0, w := false, dataBuffer := 0,
    ctrl := 0, mask := 0, vblank := false, spr0hit := false, sprovf := false, oamAddr := 0,
    oam := [], nt0 := [], nt1 := [], pal := [],
    shPatLo := 0, shPatHi := 0, shAttLo := 0, shAttHi := 0,
    nxId := 0, nxAtt := 0, nxLo := 0, nxHi := 0,
    sprList := [], nmiRequest := false, frame := List.replicate 240 [] }

/-- The cartridge of `State.reset`: no program at all, behind the fixed mapper with two program banks,
pattern RAM and horizontal mirroring (DESIGN CHOICE, log 2). -/
def Cartridge.blank : Cartridge :=
  { prgBanks := 2, chrBanks := 0, trainer := false, mirroring := .horizontal, mapper := .fixed,
    prg := [], chr := [] }

/-- The machine right after reset (`70_reset_and_hazards.md` R660, R661). The vector bytes of an empty
program memory read as 0, so `PC` is 0x0000; `Laws/State.lean` proves this state to be `systemReset` of
the launch state. -/
def State.reset : State :=
  { a := 0, x := 0, y := 0, sp := Config.spReset, pc := 0x0000, p := 0x20,
    cycles := Config.resetCycles, jammed := false, ram := [], dma := Dma.reset, master := 0,
    cart := Cartridge.blank, ppu := Ppu.reset, requests := [], draws := 0 }

end Sys2Proof.Machine
end

