-- ==== Sys2Proof/Machine/Memory.lean ====
section
/-! DEFINITION. Reading and writing one memory, and its canonical form. Every memory of the machine
(RAM, program and pattern memory, nametables, palette, OAM, each row of the frame buffer) is one of
these lists. -/

namespace Sys2Proof.Machine

/-- What an unlisted address reads as: the power-on contents, which the spec leaves OPEN (`91` N50,
`93` U4). DESIGN CHOICE, unsafe: 0 (log 1). -/
def Memory.unlisted : Byte := 0#8

/-- The byte at a key. -/
def Memory.read : Memory → Nat → Byte
  | [], _ => Memory.unlisted
  | (k, w) :: r, i => if k = i then w else Memory.read r i

/-- The list that holds one byte: empty for the byte an unlisted address reads as. -/
def Memory.cell (i : Nat) (v : Byte) : Memory := if v = Memory.unlisted then [] else [(i, v)]

/-- Writing a byte. The canonical form is kept: the new entry goes to its place in the order, an older
one goes away, and the byte an unlisted address reads as is not listed. -/
def Memory.write : Memory → Nat → Byte → Memory
  | [], i, v => Memory.cell i v
  | (k, w) :: r, i, v =>
    if k < i then (k, w) :: Memory.write r i v
    else Memory.cell i v ++ ((k, w) :: r).filter (fun c => decide (c.1 ≠ i))

/-- The canonical form: addresses strictly rising, no entry equal to what an unlisted address reads
as. -/
abbrev Memory.wf (m : Memory) : Prop :=
  m.Pairwise (fun c d => c.1 < d.1) ∧ ∀ c ∈ m, c.2 ≠ Memory.unlisted

/-- Every listed address lies below the memory's size. -/
abbrev Memory.within (n : Nat) (m : Memory) : Prop := ∀ c ∈ m, c.1 < n

/-- The memory that holds a sequence of bytes from a start address on. -/
def Memory.ofBytesFrom : Nat → List Byte → Memory
  | _, [] => []
  | i, v :: r => Memory.cell i v ++ Memory.ofBytesFrom (i + 1) r

/-- The memory that holds a sequence of bytes from address 0 on. -/
def Memory.ofBytes (bs : List Byte) : Memory := Memory.ofBytesFrom 0 bs

end Sys2Proof.Machine
end

