-- ==== Sys2Proof/Machine/Flags.lean ====
section
/-! DEFINITION. The status register's flags and every flag computation: `SetZN`, `Compare`,
`AddWithCarry`, the bit shifted out (`10_state.md` R23, `40` R139, `42` R215, R216, `43`). -/

namespace Sys2Proof.Machine

/-- The eight flags of `P` (`10_state.md` R23). -/
inductive StatusFlag
  | c | z | i | d | b | u | v | n
  deriving DecidableEq, Repr

/-- The flag's bit in `P` (`10_state.md` R23). -/
def StatusFlag.pos : StatusFlag → Nat
  | .c => 0 | .z => 1 | .i => 2 | .d => 3 | .b => 4 | .u => 5 | .v => 6 | .n => 7

/-- Reading one flag of a status byte. -/
def getFlag (p : Byte) (f : StatusFlag) : Bool := p.getLsbD f.pos

/-- Writing one flag of a status byte, the other seven unchanged. -/
def setFlag (p : Byte) (f : StatusFlag) (on : Bool) : Byte :=
  if on then p ||| (1#8 <<< f.pos) else p &&& ~~~(1#8 <<< f.pos)

/-- One flag of the machine. -/
def State.flag (s : State) (f : StatusFlag) : Bool := getFlag s.p f

/-- Writing one flag of the machine. -/
def State.setFlagTo (s : State) (f : StatusFlag) (on : Bool) : State := s.setP (setFlag s.p f on)

/-- `SetZN(v)` on a status byte (`40` R139). -/
def setZN (v : Byte) (p : Byte) : Byte := setFlag (setFlag p .z (v == 0#8)) .n (v.getLsbD 7)

/-- `SetZN(v)` on the machine (`40` R139). -/
def State.setZN (s : State) (v : Byte) : State := s.setP (Machine.setZN v s.p)

/-- `Compare(r, m)`: carry is "not borrow", zero is equality, negative is bit 7 of the 8-bit difference;
V is not written (`42` R215). -/
def compareFlags (r m : Byte) (p : Byte) : Byte :=
  setFlag (setFlag (setFlag p .c (decide (m ≤ r))) .z (r == m)) .n ((r - m).getLsbD 7)

/-- The 9-bit sum of `AddWithCarry` (`42` R216). -/
def adcSum (a m : Byte) (c : Bool) : BitVec 9 :=
  a.setWidth 9 + m.setWidth 9 + (BitVec.ofBool c).setWidth 9

/-- The overflow of `AddWithCarry`: the operands had equal signs and the result's sign differs (`42`
R216). -/
def adcOverflow (a m : Byte) (t : Byte) : Bool := (~~~(a ^^^ m) &&& (a ^^^ t)).getLsbD 7

/-- `AddWithCarry(m)` (`42` R216). `P.D` is not read (`42` R217). -/
def addWithCarry (m : Byte) (s : State) : State :=
  let t := adcSum s.a m (s.flag .c)
  let r : Byte := t.setWidth 8
  ((s.setP (setFlag (setFlag s.p .c (t.getLsbD 8)) .v (adcOverflow s.a m r))).setA r).setZN r

/-- The result of ASL (`43` R240). -/
def aslResult (m : Byte) : Byte := m <<< 1

/-- The result of LSR (`43` R241). -/
def lsrResult (m : Byte) : Byte := m >>> 1

/-- The result of ROL; the old carry enters at bit 0 (`43` R242). -/
def rolResult (m : Byte) (c : Bool) : Byte := (m <<< 1) ||| (BitVec.ofBool c).setWidth 8

/-- The result of ROR; the old carry enters at bit 7 (`43` R243). -/
def rorResult (m : Byte) (c : Bool) : Byte := ((BitVec.ofBool c).setWidth 8 <<< 7) ||| (m >>> 1)

/-- The status byte that PHP and BRK push: break and unused forced high (`45` R292, R302). -/
def pushedByInstruction (p : Byte) : Byte := p ||| 0x30#8

/-- The status register after `irq()` and `nmi()` cleared break and forced the always-set flag; this is
also the byte they push (`60` R412). -/
def pushedByInterrupt (p : Byte) : Byte := setFlag (setFlag p .b false) .u true

/-- The status register that PLP and RTI load: bits 4 and 5 of the pulled byte discarded (`45` R293,
R303). -/
def pulledStatus (v : Byte) : Byte := v &&& 0xCF#8

end Sys2Proof.Machine
end

