-- ==== Sys2Proof/Machine/Cart.lean ====
section
/-! DEFINITION. The cartridge: loading it from a ROM file, its mapper, its program and pattern memory
(`61_bus_mapper_dma.md` R450 to R468). -/

namespace Sys2Proof.Machine

/-! ### The ROM file -/

/-- The iNES signature (`61` R450). -/
def romSignature : List Byte := [0x4E#8, 0x45#8, 0x53#8, 0x1A#8]

/-- A byte of the file. DESIGN CHOICE (log 15): past the end of a truncated file it reads as 0, so a file of 4
to 7 bytes can be turned away for its mapper id or its program banks before its length; the spec leaves short
files open (`61` R450, `93` U6). -/
def romByte (f : List Byte) (i : Nat) : Byte := f.getD i 0#8

/-- `MAPPER_ID`: byte 7's high nibble over byte 6's (`61` R450). -/
def romMapperId (f : List Byte) : Nat :=
  ((romByte f 7).extractLsb' 4 4 ++ (romByte f 6).extractLsb' 4 4 : BitVec 8).toNat

/-- The mapper of an id, at its reset state; `none` for an id that is not one of the two (`61` R451). -/
def mapperOfId (id : Nat) : Option Mapper :=
  if id = Config.mapperIdFixed then some .fixed
  else if id = Config.mapperIdSwitchable then some (.switchable 0)
  else none

/-- The id of a mapper (`10_state.md` R33). -/
def Mapper.id : Mapper → Nat
  | .fixed => Config.mapperIdFixed
  | .switchable _ => Config.mapperIdSwitchable

/-- `TRAINER` (`61` R450). -/
def romTrainer (f : List Byte) : Bool := (romByte f 6).getLsbD 2

/-- `MIRRORING` (`61` R450). -/
def romMirroring (f : List Byte) : Mirroring :=
  if (romByte f 6).getLsbD 0 then .vertical else .horizontal

/-- `PRG_BANKS` (`61` R450). -/
def romPrgBanks (f : List Byte) : Nat := (romByte f 4).toNat

/-- `CHR_BANKS` (`61` R450). -/
def romChrBanks (f : List Byte) : Nat := (romByte f 5).toNat

/-- The file offset of the program data; a trainer is skipped (`61` R450, D28). -/
def romPrgOffset (f : List Byte) : Nat := 16 + if romTrainer f then 512 else 0

/-- The file offset of the pattern data (`61` R450). -/
def romChrOffset (f : List Byte) : Nat := romPrgOffset f + romPrgBanks f * Config.prgBankBytes

/-- The length the header claims (`61` R450). -/
def romLength (f : List Byte) : Nat := romChrOffset f + romChrBanks f * Config.chrBankBytes

/-- `LoadCartridge(f)` (`61` R450). Files outside its preconditions are refused (`93` U6, log 15); the
contents of pattern RAM are `chrRamInit` (`CHRRAM_INIT`). -/
def loadCartridge (chrRamInit : Memory) (f : List Byte) : Host.Outcome Cartridge Fault Refusal :=
  if f.take 4 ≠ romSignature then .fault .badSignature
  else
    match mapperOfId (romMapperId f) with
    | none => .fault .unknownMapper
    | some mp =>
      if romPrgBanks f = 0 then .refused .noProgramBank
      else if f.length < romLength f then .refused .shortFile
      else
        .next
          { prgBanks := romPrgBanks f, chrBanks := romChrBanks f, trainer := romTrainer f,
            mirroring := romMirroring f, mapper := mp,
            prg := Memory.ofBytes
              ((f.drop (romPrgOffset f)).take (romPrgBanks f * Config.prgBankBytes)),
            chr :=
              if romChrBanks f = 0 then chrRamInit
              else Memory.ofBytes
                ((f.drop (romChrOffset f)).take (romChrBanks f * Config.chrBankBytes)) }

/-! ### The mapper -/

/-- `Map_fixed` (`61` R462). -/
def mapFixed (prgBanks : Nat) (a : Addr) : Nat :=
  if prgBanks = 1 then (a &&& 0x3FFF#16).toNat else (a &&& 0x7FFF#16).toNat

/-- `Map_switchable` (`61` R463). -/
def mapSwitchable (prgBanks : Nat) (bank : BitVec 4) (a : Addr) : Nat :=
  if a ≤ 0xBFFF#16 then bank.toNat * Config.prgBankBytes + (a &&& 0x3FFF#16).toNat
  else (prgBanks - 1) * Config.prgBankBytes + (a &&& 0x3FFF#16).toNat

/-- `Map`, the strategy's translation of an address in 0x8000 to 0xFFFF (`61` R460, R468). -/
def Cartridge.map (c : Cartridge) (a : Addr) : Nat :=
  match c.mapper with
  | .fixed => mapFixed c.prgBanks a
  | .switchable bank => mapSwitchable c.prgBanks bank a

/-- The index into `PRG` that an address in 0x8000 to 0xFFFF reaches; an index beyond the array wraps
(`61` R460, R466). -/
def Cartridge.prgIndex (c : Cartridge) (a : Addr) : Nat :=
  c.map a % (c.prgBanks * Config.prgBankBytes)

/-- `CartRead(a)` (`61` R460). -/
def cartRead (c : Cartridge) (a : Addr) : Byte :=
  if a < 0x8000#16 then 0#8 else Memory.read c.prg (c.prgIndex a)

/-- `CartWrite(a, v)`: only the bank register can change (`61` R461, R464). -/
def cartWrite (c : Cartridge) (a : Addr) (v : Byte) : Cartridge :=
  match c.mapper with
  | .fixed => c
  | .switchable _ =>
    if 0x8000#16 ≤ a then { c with mapper := .switchable (v.extractLsb' 0 4) } else c

/-- The mapper at reset: bank 0 (`64` R640, D35). -/
def Mapper.reset : Mapper → Mapper
  | .fixed => .fixed
  | .switchable _ => .switchable 0

end Sys2Proof.Machine
end

