-- ==== Sys2Proof/Machine/PpuBus.lean ====
section
/-! DEFINITION. The picture processor's registers and its own address space
(`62_ppu_registers_memory.md` R500 to R536). -/

namespace Sys2Proof.Machine

/-! ### The fields of a loopy register (`10_state.md` R38) -/

/-- Coarse-X, bits 4:0. -/
def Loopy.cx (v : BitVec 15) : BitVec 5 := v.extractLsb' 0 5

/-- Coarse-Y, bits 9:5. -/
def Loopy.cy (v : BitVec 15) : BitVec 5 := v.extractLsb' 5 5

/-- Nametable-select, horizontal bit 10. -/
def Loopy.nx (v : BitVec 15) : Bool := v.getLsbD 10

/-- Nametable-select, vertical bit 11. -/
def Loopy.ny (v : BitVec 15) : Bool := v.getLsbD 11

/-- Fine-Y, bits 14:12. -/
def Loopy.fy (v : BitVec 15) : BitVec 3 := v.extractLsb' 12 3

/-- The register with given fields. -/
def Loopy.pack (fy : BitVec 3) (ny nx : Bool) (cy cx : BitVec 5) : BitVec 15 :=
  (fy ++ BitVec.ofBool ny ++ BitVec.ofBool nx ++ cy ++ cx : BitVec 15)

def Loopy.setCx (v : BitVec 15) (c : BitVec 5) : BitVec 15 :=
  Loopy.pack (Loopy.fy v) (Loopy.ny v) (Loopy.nx v) (Loopy.cy v) c

def Loopy.setCy (v : BitVec 15) (c : BitVec 5) : BitVec 15 :=
  Loopy.pack (Loopy.fy v) (Loopy.ny v) (Loopy.nx v) c (Loopy.cx v)

def Loopy.setNx (v : BitVec 15) (b : Bool) : BitVec 15 :=
  Loopy.pack (Loopy.fy v) (Loopy.ny v) b (Loopy.cy v) (Loopy.cx v)

def Loopy.setNy (v : BitVec 15) (b : Bool) : BitVec 15 :=
  Loopy.pack (Loopy.fy v) b (Loopy.nx v) (Loopy.cy v) (Loopy.cx v)

def Loopy.setFy (v : BitVec 15) (f : BitVec 3) : BitVec 15 :=
  Loopy.pack f (Loopy.ny v) (Loopy.nx v) (Loopy.cy v) (Loopy.cx v)

/-! ### The fields of the control and mask registers (`62` R510, R511) -/

def Ppu.inc32 (p : Ppu) : Bool := p.ctrl.getLsbD 2
def Ppu.sprHalf (p : Ppu) : Bool := p.ctrl.getLsbD 3
def Ppu.bgHalf (p : Ppu) : Bool := p.ctrl.getLsbD 4
def Ppu.spr16 (p : Ppu) : Bool := p.ctrl.getLsbD 5
def Ppu.nmiEn (p : Ppu) : Bool := p.ctrl.getLsbD 7
def Ppu.bgLeft (p : Ppu) : Bool := p.mask.getLsbD 1
def Ppu.sprLeft (p : Ppu) : Bool := p.mask.getLsbD 2
def Ppu.bgEn (p : Ppu) : Bool := p.mask.getLsbD 3
def Ppu.sprEn (p : Ppu) : Bool := p.mask.getLsbD 4

/-! ### PPU address space -/

/-- `NtSelect(a)`: true for physical nametable 1 (`62` R533). -/
def ntSelect (m : Mirroring) (a : BitVec 14) : Bool :=
  match m with
  | .vertical => a.getLsbD 10
  | .horizontal => a.getLsbD 11

/-- `PalIndex(a)` (`62` R534). -/
def palIndex (a : BitVec 14) : Nat :=
  let i := (a &&& 0x1F#14).toNat
  if i = 0x10 ∨ i = 0x14 ∨ i = 0x18 ∨ i = 0x1C then i - 0x10 else i

/-- The key of a nametable byte inside its 1 KiB table (`62` R530). -/
def ntOffset (a : BitVec 14) : Nat := (a &&& 0x03FF#14).toNat

/-- `PpuRead(a)`; no side effect (`62` R530). -/
def ppuRead (c : Cartridge) (p : Ppu) (a : BitVec 14) : Byte :=
  if a < 0x2000#14 then Memory.read c.chr a.toNat
  else if a < 0x3F00#14 then
    Memory.read (if ntSelect c.mirroring a then p.nt1 else p.nt0) (ntOffset a)
  else Memory.read p.pal (palIndex a)

/-- `PpuWrite(a, d)`: pattern memory takes it only where it is RAM (`62` R531, R532). -/
def ppuWrite (s : State) (a : BitVec 14) (d : Byte) : State :=
  if a < 0x2000#14 then
    if s.cart.chrBanks = 0 then
      s.setCart { s.cart with chr := Memory.write s.cart.chr a.toNat d }
    else s
  else if a < 0x3F00#14 then
    if ntSelect s.cart.mirroring a then
      s.setPpu { s.ppu with nt1 := Memory.write s.ppu.nt1 (ntOffset a) d }
    else s.setPpu { s.ppu with nt0 := Memory.write s.ppu.nt0 (ntOffset a) d }
  else s.setPpu { s.ppu with pal := Memory.write s.ppu.pal (palIndex a) d }

/-! ### The eight registers -/

/-- The VRAM address the data register uses: the low 14 bits of `v` (`62` R516). -/
def Ppu.vramAddr (p : Ppu) : BitVec 14 := p.v.setWidth 14

/-- `VramIncrement()` (`62` R518). -/
def vramIncrement (p : Ppu) : Ppu := { p with v := p.v + if p.inc32 then 32#15 else 1#15 }

/-- The byte a status read returns: three flags over five free bits (`62` R512, log 7). -/
def statusValue (s : State) : Byte :=
  (BitVec.ofBool s.ppu.vblank ++ BitVec.ofBool s.ppu.spr0hit ++ BitVec.ofBool s.ppu.sprovf
    ++ Config.statusLow s.draws : BitVec 8)

/-- What a status read does: `vblank` and the write toggle are cleared (`62` R512); one free value has
been drawn (log 7). -/
def statusEffect (s : State) : State :=
  (s.setPpu { s.ppu with vblank := false, w := false }).setDraws (s.draws + 1)

/-- The byte a data read returns: at once for palette addresses, else the buffer (`62` R516). -/
def dataValue (s : State) : Byte :=
  if 0x3F00#14 ≤ s.ppu.vramAddr then ppuRead s.cart s.ppu s.ppu.vramAddr else s.ppu.dataBuffer

/-- What a data read does: the buffer is refilled and the address moves on (`62` R516). -/
def dataReadEffect (s : State) : State :=
  s.setPpu (vramIncrement { s.ppu with dataBuffer := ppuRead s.cart s.ppu s.ppu.vramAddr })

/-- The byte `PpuRegRead(n)` returns (`62` R509). -/
def ppuRegValue (s : State) (n : BitVec 3) : Byte :=
  if n = 2 then statusValue s
  else if n = 4 then Memory.read s.ppu.oam s.ppu.oamAddr.toNat
  else if n = 7 then dataValue s
  else 0#8

/-- What `PpuRegRead(n)` does (`62` R509). -/
def ppuRegReadEffect (s : State) (n : BitVec 3) : State :=
  if n = 2 then statusEffect s else if n = 7 then dataReadEffect s else s

/-- `CtrlWrite(d)` (`62` R510). -/
def ctrlWrite (d : Byte) (p : Ppu) : Ppu :=
  { p with ctrl := d, t := Loopy.setNy (Loopy.setNx p.t (d.getLsbD 0)) (d.getLsbD 1) }

/-- `OamDataWrite(d)` (`62` R515). -/
def oamDataWrite (d : Byte) (p : Ppu) : Ppu :=
  { p with oam := Memory.write p.oam p.oamAddr.toNat d, oamAddr := p.oamAddr + 1 }

/-- `ScrollWrite(d)` (`62` R513). -/
def scrollWrite (d : Byte) (p : Ppu) : Ppu :=
  if p.w then
    { p with t := Loopy.setCy (Loopy.setFy p.t (d.extractLsb' 0 3)) (d.extractLsb' 3 5), w := false }
  else
    { p with fineX := (d.extractLsb' 0 3).setWidth 8, t := Loopy.setCx p.t (d.extractLsb' 3 5),
             w := true }

/-- `AddrWrite(d)` (`62` R517). -/
def addrWrite (d : Byte) (p : Ppu) : Ppu :=
  if p.w then
    let t : BitVec 15 := p.t.extractLsb' 8 7 ++ d
    { p with t := t, v := t, w := false }
  else
    { p with t := (0#1 ++ d.extractLsb' 0 6 ++ p.t.extractLsb' 0 8 : BitVec 15), w := true }

/-- `DataWrite(d)` (`62` R516). -/
def dataWrite (s : State) (d : Byte) : State :=
  let s1 := ppuWrite s s.ppu.vramAddr d
  s1.setPpu (vramIncrement s1.ppu)

/-- `PpuRegWrite(n, d)` (`62` R509); a write of the status register is ignored. -/
def ppuRegWrite (s : State) (n : BitVec 3) (d : Byte) : State :=
  if n = 0 then s.setPpu (ctrlWrite d s.ppu)
  else if n = 1 then s.setPpu { s.ppu with mask := d }
  else if n = 2 then s
  else if n = 3 then s.setPpu { s.ppu with oamAddr := d }
  else if n = 4 then s.setPpu (oamDataWrite d s.ppu)
  else if n = 5 then s.setPpu (scrollWrite d s.ppu)
  else if n = 6 then s.setPpu (addrWrite d s.ppu)
  else dataWrite s d

end Sys2Proof.Machine
end

