-- ==== Sys2Proof/Machine/Ops.lean ====
section
/-! DEFINITION. The named operations over the whole machine: the CPU bus, the stack, taking an interrupt,
returning from one, resetting (`20_memory.md`, `40` R138, `60` R410 to R421, `64` R640, `70` R661). -/

namespace Sys2Proof.Machine

/-! ### The CPU bus -/

/-- The byte of internal RAM an address below 0x2000 names: mirrored every 2 KiB (`20` R65). -/
def ramIndex (a : Addr) : Nat := (a &&& 0x07FF#16).toNat

/-- The PPU register an address in 0x2000 to 0x3FFF reaches (`20` R66). -/
def ppuRegOf (a : Addr) : BitVec 3 := a.extractLsb' 0 3

/-- The addresses whose reads a collaborator answers: 0x4000 to 0x4017 without 0x4014 (`20` R62; `61`
R446, R447). -/
def isCollab (a : Addr) : Bool := decide (0x4000#16 ≤ a ∧ a ≤ 0x4017#16 ∧ a ≠ 0x4014#16)

/-- The byte `MemRead(a, 1)` returns (`20` R62). A collaborator's answer is a free value (log 8); 0x4014
and the test region read 0 (`61` R448, `20` R68). -/
def busValue (s : State) (a : Addr) : Byte :=
  if a < 0x2000#16 then Memory.read s.ram (ramIndex a)
  else if a < 0x4000#16 then ppuRegValue s (ppuRegOf a)
  else if isCollab a then Config.collabRead s.draws a
  else if a < 0x4020#16 then 0#8
  else cartRead s.cart a

/-- What `MemRead(a, 1)` does besides returning a byte: the side effects of the PPU registers (`20` R62,
R77), and one free value drawn where a collaborator answers (log 8). -/
def busEffect (s : State) (a : Addr) : State :=
  if a < 0x2000#16 then s
  else if a < 0x4000#16 then ppuRegReadEffect s (ppuRegOf a)
  else if isCollab a then s.setDraws (s.draws + 1)
  else s

/-- `MemRead(a, 1)` (`20` R62). It never fails (`20` R61). -/
def memRead (s : State) (a : Addr) : Byte × State := (busValue s a, busEffect s a)

/-- `DmaRequest(v)` (`61` R471). -/
def dmaRequest (v : Byte) (d : Dma) : Dma :=
  { d with page := v, offset := 0, align := true, active := true }

/-- `MemWrite(a, 1, v)` (`20` R63). Writes to the collaborator windows touch no state of the core (`61`
R446, R447, log 8); the test region ignores them (`20` R68). -/
def memWrite (s : State) (a : Addr) (v : Byte) : State :=
  if a < 0x2000#16 then s.setRam (Memory.write s.ram (ramIndex a) v)
  else if a < 0x4000#16 then ppuRegWrite s (ppuRegOf a) v
  else if a = 0x4014#16 then s.setDma (dmaRequest v s.dma)
  else if a < 0x4020#16 then s
  else s.setCart (cartWrite s.cart a v)

/-! ### The stack (`40` R138) -/

/-- The address the stack pointer designates: always in the stack page (`10_state.md` R21). -/
def stackAddr (sp : Byte) : Addr := Config.stackBase + sp.setWidth 16

/-- `Push(v)`. -/
def push (s : State) (v : Byte) : State := (memWrite s (stackAddr s.sp) v).setSp (s.sp - 1)

/-- `Pull()`. -/
def pull (s : State) : Byte × State :=
  let s1 := s.setSp (s.sp + 1)
  memRead s1 (stackAddr s1.sp)

/-- Pushing a 16-bit value: high byte first (`20` R73). -/
def pushWord (s : State) (w : Addr) : State := push (push s (hiByte w)) (loByte w)

/-- Pulling a 16-bit value: low byte first (`20` R73, `44` R272). -/
def pullWord (s : State) : Addr × State :=
  let (lo, s1) := pull s
  let (hi, s2) := pull s1
  (wordOf hi lo, s2)

/-- Reading a 16-bit vector, low byte first (`20` R71, R72; `60` R410). -/
def readVector (s : State) (vec : Addr) : Addr × State :=
  let (lo, s1) := memRead s vec
  let (hi, s2) := memRead s1 (vec + 1)
  (wordOf hi lo, s2)

/-! ### Taking an exception, and returning from one -/

/-- The entry that BRK, `irq()` and `nmi()` share: the program counter and a status byte pushed, `P.I`
set after the push, the program counter loaded from a vector (`60` R410, R413; `45` R302; D12). -/
def enterHandler (status : Byte) (vec : Addr) (s : State) : State :=
  let s1 := push (pushWord s s.pc) status
  let s2 := s1.setFlagTo .i true
  let (h, s3) := readVector s2 vec
  s3.setPc h

/-- The body of `irq()` after its mask test, and of `nmi()`: break cleared and the always-set flag forced
before the push, the cycles assigned (`60` R410, R412, R413, R414). -/
def takeInterrupt (vec : Addr) (n : Nat) (s : State) : State :=
  let s1 := s.setP (pushedByInterrupt s.p)
  (enterHandler s1.p vec s1).setCycles n

/-- `nmi()` (`60` R413). -/
def nmi (s : State) : State := takeInterrupt Config.nmiVector Config.nmiCycles s

/-- `irq()`: a no-op while interrupt-disable is set (`60` R410, R411). -/
def irq (s : State) : State :=
  if s.flag .i then s else takeInterrupt Config.irqVector Config.irqCycles s

/-- The return that RTI makes: the status, then the program counter, pulled from the stack (`45` R303,
`60` R430). -/
def returnFromHandler (s : State) : State :=
  let (v, s1) := pull s
  let (w, s2) := pullWord (s1.setP (pulledStatus v))
  s2.setPc w

/-! ### Reset -/

/-- The CPU's `reset()` (`70` R661); it also leaves the Jammed state (`46` R332). -/
def cpuReset (s : State) : State :=
  let (v, s1) := readVector s Config.resetVector
  { s1 with pc := v, a := 0, x := 0, y := 0, sp := Config.spReset, p := 0x20,
            cycles := Config.resetCycles, jammed := false }

/-- The picture processor's part of the reset: its memories persist (`64` R640, `70` R660). -/
def ppuReset (p : Ppu) : Ppu :=
  { Ppu.reset with oam := p.oam, nt0 := p.nt0, nt1 := p.nt1, pal := p.pal, frame := p.frame }

/-- `SystemReset()` (`64` R640). -/
def systemReset (s : State) : State :=
  cpuReset
    { s with cart := { s.cart with mapper := s.cart.mapper.reset }, dma := Dma.reset,
             ppu := ppuReset s.ppu, master := 0 }

/-- The machine as constructed, before the first reset: `reset` overwrites everything here that is not a
memory, the cartridge or one of the model's own fields (`10_state.md`, `64` R641). -/
def constructed (cart : Cartridge) (ram nt0 nt1 pal oam : Memory) : State :=
  { State.reset with
    cart := cart, ram := ram,
    ppu := { Ppu.reset with nt0 := nt0, nt1 := nt1, pal := pal, oam := oam } }

/-- Power-on: `LoadCartridge` followed by `SystemReset()`, from given power-on contents of the memories
(`64` R641, `00_scope.md` R3). -/
def powerOn (ram nt0 nt1 pal oam chrRam : Memory) (file : List Byte) : Out :=
  match loadCartridge chrRam file with
  | .next cart => .next (systemReset (constructed cart ram nt0 nt1 pal oam))
  | .fault r => .fault r
  | .refused r => .refused r

end Sys2Proof.Machine
end

