-- ==== Sys2Proof/Machine/Operands.lean ====
section
/-! DEFINITION. The addressing-mode resolvers, and the shapes of an instruction: reading, storing,
read-modify-write, accumulator, implied, branch (`40_execution_and_addressing.md` R130 to R155). An
instruction runs on the state after its bytes were fetched: `PC` is at the following instruction. -/

namespace Sys2Proof.Machine

/-- What a resolver returns: the effective address, "addressing added a cycle", and the machine after the
resolver's own reads (`40` R130 step 3). -/
structure Ea where
  addr : Addr
  af   : Bool
  st   : State
  deriving DecidableEq, Repr

/-- ZP0 (`40` R143). -/
def eaZp0 (zp : Byte) (s : State) : Ea := { addr := zp.setWidth 16, af := false, st := s }

/-- ZPX: wraps within page zero (`40` R144). -/
def eaZpx (zp : Byte) (s : State) : Ea := { addr := (zp + s.x).setWidth 16, af := false, st := s }

/-- ZPY: wraps within page zero (`40` R145). -/
def eaZpy (zp : Byte) (s : State) : Ea := { addr := (zp + s.y).setWidth 16, af := false, st := s }

/-- ABS (`40` R147). -/
def eaAbs (w : Addr) (s : State) : Ea := { addr := w, af := false, st := s }

/-- An address indexed by a register, and whether its high byte changed (`40` R148, R149, R152). -/
def indexed (w : Addr) (r : Byte) (s : State) : Ea :=
  { addr := w + r.setWidth 16, af := hiByte (w + r.setWidth 16) != hiByte w, st := s }

/-- ABX (`40` R148). -/
def eaAbx (w : Addr) (s : State) : Ea := indexed w s.x s

/-- ABY (`40` R149). -/
def eaAby (w : Addr) (s : State) : Ea := indexed w s.y s

/-- The address of an indirect pointer's high byte: in the pointer's own page, always (`40` R150). -/
def pointerHigh (ptr : Addr) : Addr := wordOf (hiByte ptr) (loByte ptr + 1)

/-- IND (`40` R150). -/
def eaInd (ptr : Addr) (s : State) : Ea :=
  let (lo, s1) := memRead s ptr
  let (hi, s2) := memRead s1 (pointerHigh ptr)
  { addr := wordOf hi lo, af := false, st := s2 }

/-- The two bytes of a pointer in page zero, which wraps (`40` R151, R152). -/
def zeroPagePointer (t : Byte) (s : State) : Addr × State :=
  let (lo, s1) := memRead s (t.setWidth 16)
  let (hi, s2) := memRead s1 ((t + 1).setWidth 16)
  (wordOf hi lo, s2)

/-- IZX (`40` R151). -/
def eaIzx (zp : Byte) (s : State) : Ea :=
  let (w, s1) := zeroPagePointer (zp + s.x) s
  { addr := w, af := false, st := s1 }

/-- IZY (`40` R152). -/
def eaIzy (zp : Byte) (s : State) : Ea :=
  let (w, s1) := zeroPagePointer zp s
  indexed w s1.y s1

/-! ### The end of an instruction -/

/-- Steps 5 and 6 of `clock()`: the cycle sum, in which the two extra-cycle flags are combined by AND,
and the always-set flag (`40` R130, R133, R134). -/
def finish (base : Nat) (af xf : Bool) (bp : Nat) (s : State) : Out :=
  .next ((s.setCycles (base + (af && xf).toNat + bp)).setFlagTo .u true)

/-! ### Shapes -/

/-- An instruction without an operand in memory. -/
def impOp (base : Nat) (body : State → State) (s : State) : Out := finish base false false 0 (body s)

/-- A reading instruction in IMM format: its operand is the byte fetched with it (`40` R142, log 12). -/
def immOp (base : Nat) (body : Byte → State → State) (imm : Byte) (s : State) : Out :=
  finish base false false 0 (body imm s)

/-- A reading instruction: one `MemRead(ea)` (`40` R153). -/
def readOp (base : Nat) (xf : Bool) (body : Byte → State → State) (e : Ea) : Out :=
  let (m, s1) := memRead e.st e.addr
  finish base e.af xf 0 (body m s1)

/-- A storing instruction: one `MemWrite(ea)` and no read (`40` R153). -/
def storeOp (base : Nat) (value : State → Byte) (e : Ea) : Out :=
  finish base e.af false 0 (memWrite e.st e.addr (value e.st))

/-- A read-modify-write instruction: one `MemRead(ea)`, then one `MemWrite(ea)` (`40` R153). `result`
gives the byte written from the byte read and the old carry; `after` does the rest of the body. -/
def rmwOp (base : Nat) (result : Byte → Bool → Byte) (after : Byte → Byte → State → State) (e : Ea) :
    Out :=
  let (m, s1) := memRead e.st e.addr
  let v := result m (s1.flag .c)
  finish base e.af false 0 (after m v (memWrite s1 e.addr v))

/-- A shift of the accumulator (`43` R244). -/
def accOp (base : Nat) (result : Byte → Bool → Byte) (after : Byte → Byte → State → State)
    (s : State) : Out :=
  let v := result s.a (s.flag .c)
  finish base false false 0 ((after s.a v s).setA v)

/-- A no-op that resolves its address and reads nothing at it; `xf` is 1 (`46` R330). -/
def nopOp (base : Nat) (e : Ea) : Out := finish base e.af true 0 e.st

/-- `BranchIf(cond)` (`44` R260); `rel` is the operand byte of the REL format, sign-extended (`40`
R146). -/
def branchOp (cond : Bool) (rel : Byte) (s : State) : Out :=
  let target : Addr := s.pc + rel.signExtend 16
  if cond then
    finish 2 false false (if hiByte target ≠ hiByte s.pc then 2 else 1) (s.setPc target)
  else finish 2 false false 0 s

/-- `raise Jam`: the CPU is stuck; steps 5 and 6 of `clock()` are not reached (`40` R132;
`46` R332, R333; `93` U1, log 5). -/
def jamOp (s : State) : Out := .next (s.setJammed true)

end Sys2Proof.Machine
end

