-- ==== Sys2Proof/Machine/Arith.lean ====
section
/-! DEFINITION. Arithmetic, logic, compare, increment and decrement (`42_arithmetic_logic.md` R200 to R216). -/

namespace Sys2Proof.Machine

/-- The body of SBC: `AddWithCarry` of the one's complement (R201). -/
def subtract (m : Byte) (s : State) : State := addWithCarry (m ^^^ 0xFF#8) s

/-- The accumulator written with a result and its flags (R202 to R204). -/
def resultA (r : Byte) (s : State) : State := (s.setA r).setZN r

/-- The body of AND (R202). -/
def andA (m : Byte) (s : State) : State := resultA (s.a &&& m) s

/-- The body of ORA (R203). -/
def orA (m : Byte) (s : State) : State := resultA (s.a ||| m) s

/-- The body of EOR (R204). -/
def eorA (m : Byte) (s : State) : State := resultA (s.a ^^^ m) s

/-- The body of CMP (R205). -/
def compareA (m : Byte) (s : State) : State := s.setP (compareFlags s.a m s.p)

/-- The body of CPX (R206). -/
def compareX (m : Byte) (s : State) : State := s.setP (compareFlags s.x m s.p)

/-- The body of CPY (R207). -/
def compareY (m : Byte) (s : State) : State := s.setP (compareFlags s.y m s.p)

/-- The body of BIT: Z from the AND, N and V from the operand itself (R208). -/
def bitTest (m : Byte) (s : State) : State :=
  s.setP (setFlag (setFlag (setFlag s.p .z (s.a &&& m == 0#8)) .n (m.getLsbD 7)) .v (m.getLsbD 6))

/-- The byte INC writes (R209). -/
def incResult (m : Byte) (_ : Bool) : Byte := m + 1

/-- The byte DEC writes (R210). -/
def decResult (m : Byte) (_ : Bool) : Byte := m - 1

/-- The flags of INC and DEC, from the byte written (R209, R210). -/
def afterCount (_ v : Byte) (s : State) : State := s.setZN v

/-- INX (R211). -/
def inxBody (s : State) : State := (s.setX (s.x + 1)).setZN (s.x + 1)

/-- INY (R212). -/
def inyBody (s : State) : State := (s.setY (s.y + 1)).setZN (s.y + 1)

/-- DEX (R213). -/
def dexBody (s : State) : State := (s.setX (s.x - 1)).setZN (s.x - 1)

/-- DEY (R214). -/
def deyBody (s : State) : State := (s.setY (s.y - 1)).setZN (s.y - 1)

/-! ### One meaning per constructor -/

/-! ADC (R200) -/

def execAdcIzx (zp : Byte) (s : State) : Out := readOp 6 true addWithCarry (eaIzx zp s)
def execAdcZp0 (zp : Byte) (s : State) : Out := readOp 3 true addWithCarry (eaZp0 zp s)
def execAdcImm (imm : Byte) (s : State) : Out := immOp 2 addWithCarry imm s
def execAdcAbs (w : Addr) (s : State) : Out := readOp 4 true addWithCarry (eaAbs w s)
def execAdcIzy (zp : Byte) (s : State) : Out := readOp 5 true addWithCarry (eaIzy zp s)
def execAdcZpx (zp : Byte) (s : State) : Out := readOp 4 true addWithCarry (eaZpx zp s)
def execAdcAby (w : Addr) (s : State) : Out := readOp 4 true addWithCarry (eaAby w s)
def execAdcAbx (w : Addr) (s : State) : Out := readOp 4 true addWithCarry (eaAbx w s)

/-! SBC (R201, R331) -/

def execSbcIzx (zp : Byte) (s : State) : Out := readOp 6 true subtract (eaIzx zp s)
def execSbcZp0 (zp : Byte) (s : State) : Out := readOp 3 true subtract (eaZp0 zp s)
def execSbcImm (imm : Byte) (s : State) : Out := immOp 2 subtract imm s
def execSbcEB (imm : Byte) (s : State) : Out := immOp 2 subtract imm s
def execSbcAbs (w : Addr) (s : State) : Out := readOp 4 true subtract (eaAbs w s)
def execSbcIzy (zp : Byte) (s : State) : Out := readOp 5 true subtract (eaIzy zp s)
def execSbcZpx (zp : Byte) (s : State) : Out := readOp 4 true subtract (eaZpx zp s)
def execSbcAby (w : Addr) (s : State) : Out := readOp 4 true subtract (eaAby w s)
def execSbcAbx (w : Addr) (s : State) : Out := readOp 4 true subtract (eaAbx w s)

/-! AND (R202) -/

def execAndIzx (zp : Byte) (s : State) : Out := readOp 6 true andA (eaIzx zp s)
def execAndZp0 (zp : Byte) (s : State) : Out := readOp 3 true andA (eaZp0 zp s)
def execAndImm (imm : Byte) (s : State) : Out := immOp 2 andA imm s
def execAndAbs (w : Addr) (s : State) : Out := readOp 4 true andA (eaAbs w s)
def execAndIzy (zp : Byte) (s : State) : Out := readOp 5 true andA (eaIzy zp s)
def execAndZpx (zp : Byte) (s : State) : Out := readOp 4 true andA (eaZpx zp s)
def execAndAby (w : Addr) (s : State) : Out := readOp 4 true andA (eaAby w s)
def execAndAbx (w : Addr) (s : State) : Out := readOp 4 true andA (eaAbx w s)

/-! ORA (R203) -/

def execOraIzx (zp : Byte) (s : State) : Out := readOp 6 true orA (eaIzx zp s)
def execOraZp0 (zp : Byte) (s : State) : Out := readOp 3 true orA (eaZp0 zp s)
def execOraImm (imm : Byte) (s : State) : Out := immOp 2 orA imm s
def execOraAbs (w : Addr) (s : State) : Out := readOp 4 true orA (eaAbs w s)
def execOraIzy (zp : Byte) (s : State) : Out := readOp 5 true orA (eaIzy zp s)
def execOraZpx (zp : Byte) (s : State) : Out := readOp 4 true orA (eaZpx zp s)
def execOraAby (w : Addr) (s : State) : Out := readOp 4 true orA (eaAby w s)
def execOraAbx (w : Addr) (s : State) : Out := readOp 4 true orA (eaAbx w s)

/-! EOR (R204) -/

def execEorIzx (zp : Byte) (s : State) : Out := readOp 6 true eorA (eaIzx zp s)
def execEorZp0 (zp : Byte) (s : State) : Out := readOp 3 true eorA (eaZp0 zp s)
def execEorImm (imm : Byte) (s : State) : Out := immOp 2 eorA imm s
def execEorAbs (w : Addr) (s : State) : Out := readOp 4 true eorA (eaAbs w s)
def execEorIzy (zp : Byte) (s : State) : Out := readOp 5 true eorA (eaIzy zp s)
def execEorZpx (zp : Byte) (s : State) : Out := readOp 4 true eorA (eaZpx zp s)
def execEorAby (w : Addr) (s : State) : Out := readOp 4 true eorA (eaAby w s)
def execEorAbx (w : Addr) (s : State) : Out := readOp 4 true eorA (eaAbx w s)

/-! CMP (R205) -/

def execCmpIzx (zp : Byte) (s : State) : Out := readOp 6 true compareA (eaIzx zp s)
def execCmpZp0 (zp : Byte) (s : State) : Out := readOp 3 true compareA (eaZp0 zp s)
def execCmpImm (imm : Byte) (s : State) : Out := immOp 2 compareA imm s
def execCmpAbs (w : Addr) (s : State) : Out := readOp 4 true compareA (eaAbs w s)
def execCmpIzy (zp : Byte) (s : State) : Out := readOp 5 true compareA (eaIzy zp s)
def execCmpZpx (zp : Byte) (s : State) : Out := readOp 4 true compareA (eaZpx zp s)
def execCmpAby (w : Addr) (s : State) : Out := readOp 4 true compareA (eaAby w s)
def execCmpAbx (w : Addr) (s : State) : Out := readOp 4 true compareA (eaAbx w s)

/-! CPX (R206) -/

def execCpxImm (imm : Byte) (s : State) : Out := immOp 2 compareX imm s
def execCpxZp0 (zp : Byte) (s : State) : Out := readOp 3 false compareX (eaZp0 zp s)
def execCpxAbs (w : Addr) (s : State) : Out := readOp 4 false compareX (eaAbs w s)

/-! CPY (R207) -/

def execCpyImm (imm : Byte) (s : State) : Out := immOp 2 compareY imm s
def execCpyZp0 (zp : Byte) (s : State) : Out := readOp 3 false compareY (eaZp0 zp s)
def execCpyAbs (w : Addr) (s : State) : Out := readOp 4 false compareY (eaAbs w s)

/-! BIT (R208) -/

def execBitZp0 (zp : Byte) (s : State) : Out := readOp 3 false bitTest (eaZp0 zp s)
def execBitAbs (w : Addr) (s : State) : Out := readOp 4 false bitTest (eaAbs w s)

/-! INC (R209) -/

def execIncZp0 (zp : Byte) (s : State) : Out := rmwOp 5 incResult afterCount (eaZp0 zp s)
def execIncAbs (w : Addr) (s : State) : Out := rmwOp 6 incResult afterCount (eaAbs w s)
def execIncZpx (zp : Byte) (s : State) : Out := rmwOp 6 incResult afterCount (eaZpx zp s)
def execIncAbx (w : Addr) (s : State) : Out := rmwOp 7 incResult afterCount (eaAbx w s)

/-! DEC (R210) -/

def execDecZp0 (zp : Byte) (s : State) : Out := rmwOp 5 decResult afterCount (eaZp0 zp s)
def execDecAbs (w : Addr) (s : State) : Out := rmwOp 6 decResult afterCount (eaAbs w s)
def execDecZpx (zp : Byte) (s : State) : Out := rmwOp 6 decResult afterCount (eaZpx zp s)
def execDecAbx (w : Addr) (s : State) : Out := rmwOp 7 decResult afterCount (eaAbx w s)

/-! INX (R211) -/

def execInx (s : State) : Out := impOp 2 inxBody s

/-! INY (R212) -/

def execIny (s : State) : Out := impOp 2 inyBody s

/-! DEX (R213) -/

def execDex (s : State) : Out := impOp 2 dexBody s

/-! DEY (R214) -/

def execDey (s : State) : Out := impOp 2 deyBody s

end Sys2Proof.Machine
end

