-- ==== Sys2Proof/Machine/Branch.lean ====
section
/-! DEFINITION. Branches, jumps, subroutine call and return (`44_branch_jump.md` R260 to R272). -/

namespace Sys2Proof.Machine

/-- JMP: the effective address is the target; nothing is read at it (R269). -/
def jumpOp (base : Nat) (e : Ea) : Out := finish base e.af false 0 (e.st.setPc e.addr)

/-- JSR: the address of its own last byte is pushed (R271). -/
def jsrBody (w : Addr) (s : State) : State := (pushWord s (s.pc - 1)).setPc w

/-- RTS: the pulled address plus one (R272). -/
def rtsBody (s : State) : State :=
  let (w, s1) := pullWord s
  s1.setPc (w + 1)

/-! ### One meaning per constructor -/

/-! BCC (R261) -/

def execBcc (rel : Byte) (s : State) : Out := branchOp (!s.flag .c) rel s

/-! BCS (R262) -/

def execBcs (rel : Byte) (s : State) : Out := branchOp (s.flag .c) rel s

/-! BEQ (R263) -/

def execBeq (rel : Byte) (s : State) : Out := branchOp (s.flag .z) rel s

/-! BNE (R264) -/

def execBne (rel : Byte) (s : State) : Out := branchOp (!s.flag .z) rel s

/-! BMI (R265) -/

def execBmi (rel : Byte) (s : State) : Out := branchOp (s.flag .n) rel s

/-! BPL (R266) -/

def execBpl (rel : Byte) (s : State) : Out := branchOp (!s.flag .n) rel s

/-! BVC (R267) -/

def execBvc (rel : Byte) (s : State) : Out := branchOp (!s.flag .v) rel s

/-! BVS (R268) -/

def execBvs (rel : Byte) (s : State) : Out := branchOp (s.flag .v) rel s

/-! JMP (R269) -/

def execJmpAbs (w : Addr) (s : State) : Out := jumpOp 3 (eaAbs w s)
def execJmpInd (w : Addr) (s : State) : Out := jumpOp 5 (eaInd w s)

/-! JSR (R271) -/

def execJsrAbs (w : Addr) (s : State) : Out := impOp 6 (jsrBody w) s

/-! RTS (R272) -/

def execRts (s : State) : Out := impOp 6 rtsBody s

end Sys2Proof.Machine
end

