-- ==== Sys2Proof/Machine/Load.lean ====
section
/-! DEFINITION. Loads, stores and register transfers (`41_load_store_transfer.md` R170 to R181). -/

namespace Sys2Proof.Machine

/-- The body of LDA (R170). -/
def loadA (m : Byte) (s : State) : State := (s.setA m).setZN m

/-- The body of LDX (R171). -/
def loadX (m : Byte) (s : State) : State := (s.setX m).setZN m

/-- The body of LDY (R172). -/
def loadY (m : Byte) (s : State) : State := (s.setY m).setZN m

/-- What STA stores (R173). -/
def valueA (s : State) : Byte := s.a

/-- What STX stores (R174). -/
def valueX (s : State) : Byte := s.x

/-- What STY stores (R175). -/
def valueY (s : State) : Byte := s.y

/-- TAX (R176). -/
def taxBody (s : State) : State := (s.setX s.a).setZN s.a

/-- TAY (R177). -/
def tayBody (s : State) : State := (s.setY s.a).setZN s.a

/-- TXA (R178). -/
def txaBody (s : State) : State := (s.setA s.x).setZN s.x

/-- TYA (R179). -/
def tyaBody (s : State) : State := (s.setA s.y).setZN s.y

/-- TSX (R180). -/
def tsxBody (s : State) : State := (s.setX s.sp).setZN s.sp

/-- TXS: no flag (R181). -/
def txsBody (s : State) : State := s.setSp s.x

/-! ### One meaning per constructor -/

/-! LDA (R170) -/

def execLdaIzx (zp : Byte) (s : State) : Out := readOp 6 true loadA (eaIzx zp s)
def execLdaZp0 (zp : Byte) (s : State) : Out := readOp 3 true loadA (eaZp0 zp s)
def execLdaImm (imm : Byte) (s : State) : Out := immOp 2 loadA imm s
def execLdaAbs (w : Addr) (s : State) : Out := readOp 4 true loadA (eaAbs w s)
def execLdaIzy (zp : Byte) (s : State) : Out := readOp 5 true loadA (eaIzy zp s)
def execLdaZpx (zp : Byte) (s : State) : Out := readOp 4 true loadA (eaZpx zp s)
def execLdaAby (w : Addr) (s : State) : Out := readOp 4 true loadA (eaAby w s)
def execLdaAbx (w : Addr) (s : State) : Out := readOp 4 true loadA (eaAbx w s)

/-! LDX (R171) -/

def execLdxImm (imm : Byte) (s : State) : Out := immOp 2 loadX imm s
def execLdxZp0 (zp : Byte) (s : State) : Out := readOp 3 true loadX (eaZp0 zp s)
def execLdxAbs (w : Addr) (s : State) : Out := readOp 4 true loadX (eaAbs w s)
def execLdxZpy (zp : Byte) (s : State) : Out := readOp 4 true loadX (eaZpy zp s)
def execLdxAby (w : Addr) (s : State) : Out := readOp 4 true loadX (eaAby w s)

/-! LDY (R172) -/

def execLdyImm (imm : Byte) (s : State) : Out := immOp 2 loadY imm s
def execLdyZp0 (zp : Byte) (s : State) : Out := readOp 3 true loadY (eaZp0 zp s)
def execLdyAbs (w : Addr) (s : State) : Out := readOp 4 true loadY (eaAbs w s)
def execLdyZpx (zp : Byte) (s : State) : Out := readOp 4 true loadY (eaZpx zp s)
def execLdyAbx (w : Addr) (s : State) : Out := readOp 4 true loadY (eaAbx w s)

/-! STA (R173) -/

def execStaIzx (zp : Byte) (s : State) : Out := storeOp 6 valueA (eaIzx zp s)
def execStaZp0 (zp : Byte) (s : State) : Out := storeOp 3 valueA (eaZp0 zp s)
def execStaAbs (w : Addr) (s : State) : Out := storeOp 4 valueA (eaAbs w s)
def execStaIzy (zp : Byte) (s : State) : Out := storeOp 6 valueA (eaIzy zp s)
def execStaZpx (zp : Byte) (s : State) : Out := storeOp 4 valueA (eaZpx zp s)
def execStaAby (w : Addr) (s : State) : Out := storeOp 5 valueA (eaAby w s)
def execStaAbx (w : Addr) (s : State) : Out := storeOp 5 valueA (eaAbx w s)

/-! STX (R174) -/

def execStxZp0 (zp : Byte) (s : State) : Out := storeOp 3 valueX (eaZp0 zp s)
def execStxAbs (w : Addr) (s : State) : Out := storeOp 4 valueX (eaAbs w s)
def execStxZpy (zp : Byte) (s : State) : Out := storeOp 4 valueX (eaZpy zp s)

/-! STY (R175) -/

def execStyZp0 (zp : Byte) (s : State) : Out := storeOp 3 valueY (eaZp0 zp s)
def execStyAbs (w : Addr) (s : State) : Out := storeOp 4 valueY (eaAbs w s)
def execStyZpx (zp : Byte) (s : State) : Out := storeOp 4 valueY (eaZpx zp s)

/-! TAX (R176) -/

def execTax (s : State) : Out := impOp 2 taxBody s

/-! TAY (R177) -/

def execTay (s : State) : Out := impOp 2 tayBody s

/-! TXA (R178) -/

def execTxa (s : State) : Out := impOp 2 txaBody s

/-! TYA (R179) -/

def execTya (s : State) : Out := impOp 2 tyaBody s

/-! TSX (R180) -/

def execTsx (s : State) : Out := impOp 2 tsxBody s

/-! TXS (R181) -/

def execTxs (s : State) : Out := impOp 2 txsBody s

end Sys2Proof.Machine
end

