-- ==== Sys2Proof/Machine/Shift.lean ====
section
/-! DEFINITION. Shifts and rotates (`43_shift_rotate.md` R240 to R244). -/

namespace Sys2Proof.Machine

/-- The byte ASL writes; the old carry plays no part (R240). -/
def aslByte (m : Byte) (_ : Bool) : Byte := aslResult m

/-- The byte LSR writes; the old carry plays no part (R241). -/
def lsrByte (m : Byte) (_ : Bool) : Byte := lsrResult m

/-- The flags of ASL and ROL: carry is the old bit 7, Z and N from the result (R240, R242). -/
def afterLeft (m v : Byte) (s : State) : State := (s.setFlagTo .c (m.getLsbD 7)).setZN v

/-- The flags of LSR and ROR: carry is the old bit 0, Z and N from the result (R241, R243). -/
def afterRight (m v : Byte) (s : State) : State := (s.setFlagTo .c (m.getLsbD 0)).setZN v

/-! ### One meaning per constructor -/

/-! ASL (R240) -/

def execAslZp0 (zp : Byte) (s : State) : Out := rmwOp 5 aslByte afterLeft (eaZp0 zp s)
def execAslAcc (s : State) : Out := accOp 2 aslByte afterLeft s
def execAslAbs (w : Addr) (s : State) : Out := rmwOp 6 aslByte afterLeft (eaAbs w s)
def execAslZpx (zp : Byte) (s : State) : Out := rmwOp 6 aslByte afterLeft (eaZpx zp s)
def execAslAbx (w : Addr) (s : State) : Out := rmwOp 7 aslByte afterLeft (eaAbx w s)

/-! LSR (R241) -/

def execLsrZp0 (zp : Byte) (s : State) : Out := rmwOp 5 lsrByte afterRight (eaZp0 zp s)
def execLsrAcc (s : State) : Out := accOp 2 lsrByte afterRight s
def execLsrAbs (w : Addr) (s : State) : Out := rmwOp 6 lsrByte afterRight (eaAbs w s)
def execLsrZpx (zp : Byte) (s : State) : Out := rmwOp 6 lsrByte afterRight (eaZpx zp s)
def execLsrAbx (w : Addr) (s : State) : Out := rmwOp 7 lsrByte afterRight (eaAbx w s)

/-! ROL (R242) -/

def execRolZp0 (zp : Byte) (s : State) : Out := rmwOp 5 rolResult afterLeft (eaZp0 zp s)
def execRolAcc (s : State) : Out := accOp 2 rolResult afterLeft s
def execRolAbs (w : Addr) (s : State) : Out := rmwOp 6 rolResult afterLeft (eaAbs w s)
def execRolZpx (zp : Byte) (s : State) : Out := rmwOp 6 rolResult afterLeft (eaZpx zp s)
def execRolAbx (w : Addr) (s : State) : Out := rmwOp 7 rolResult afterLeft (eaAbx w s)

/-! ROR (R243) -/

def execRorZp0 (zp : Byte) (s : State) : Out := rmwOp 5 rorResult afterRight (eaZp0 zp s)
def execRorAcc (s : State) : Out := accOp 2 rorResult afterRight s
def execRorAbs (w : Addr) (s : State) : Out := rmwOp 6 rorResult afterRight (eaAbs w s)
def execRorZpx (zp : Byte) (s : State) : Out := rmwOp 6 rorResult afterRight (eaZpx zp s)
def execRorAbx (w : Addr) (s : State) : Out := rmwOp 7 rorResult afterRight (eaAbx w s)

end Sys2Proof.Machine
end

