-- ==== Sys2Proof/Machine/System.lean ====
section
/-! DEFINITION. Stack, flag and system instructions (`45_stack_flags_system.md` R290 to R303). -/

namespace Sys2Proof.Machine

/-- PHA (R290). -/
def phaBody (s : State) : State := push s s.a

/-- PLA (R291). -/
def plaBody (s : State) : State :=
  let (v, s1) := pull s
  (s1.setA v).setZN v

/-- PHP: break and unused are set in the pushed copy, the register is unchanged (R292). -/
def phpBody (s : State) : State := push s (pushedByInstruction s.p)

/-- PLP (R293). -/
def plpBody (s : State) : State :=
  let (v, s1) := pull s
  s1.setP (pulledStatus v)

/-- BRK: a padding byte is skipped, then the shared entry through the IRQ vector (R302). -/
def brkBody (s : State) : State :=
  enterHandler (pushedByInstruction s.p) Config.irqVector (s.setPc (s.pc + 1))

/-! ### One meaning per constructor -/

/-! PHA (R290) -/

def execPha (s : State) : Out := impOp 3 phaBody s

/-! PLA (R291) -/

def execPla (s : State) : Out := impOp 4 plaBody s

/-! PHP (R292) -/

def execPhp (s : State) : Out := impOp 3 phpBody s

/-! PLP (R293) -/

def execPlp (s : State) : Out := impOp 4 plpBody s

/-! CLC (R294) -/

def execClc (s : State) : Out := impOp 2 (fun t => t.setFlagTo .c false) s

/-! SEC (R295) -/

def execSec (s : State) : Out := impOp 2 (fun t => t.setFlagTo .c true) s

/-! CLI (R296) -/

def execCli (s : State) : Out := impOp 2 (fun t => t.setFlagTo .i false) s

/-! SEI (R297) -/

def execSei (s : State) : Out := impOp 2 (fun t => t.setFlagTo .i true) s

/-! CLD (R298) -/

def execCld (s : State) : Out := impOp 2 (fun t => t.setFlagTo .d false) s

/-! SED (R299) -/

def execSed (s : State) : Out := impOp 2 (fun t => t.setFlagTo .d true) s

/-! CLV (R300) -/

def execClv (s : State) : Out := impOp 2 (fun t => t.setFlagTo .v false) s

/-! NOP (R301) -/

def execNop (s : State) : Out := impOp 2 (fun t => t) s

/-! BRK (R302) -/

def execBrk (s : State) : Out := impOp 7 brkBody s

/-! RTI (R303) -/

def execRti (s : State) : Out := impOp 6 returnFromHandler s

end Sys2Proof.Machine
end

