-- ==== Sys2Proof/Machine/Undocumented.lean ====
section
/-! DEFINITION. Undocumented opcodes (`46_undocumented.md` R320 to R333). -/

namespace Sys2Proof.Machine

/-- The body of LAX (R320). -/
def loadAX (m : Byte) (s : State) : State := ((s.setA m).setX m).setZN m

/-- What SAX stores (R321). -/
def valueAX (s : State) : Byte := s.a &&& s.x

/-- DCP after the store: `Compare` with the decremented byte (R322). -/
def afterDcp (_ v : Byte) (s : State) : State := compareA v s

/-- ISC after the store: SBC of the incremented byte (R323). -/
def afterIsc (_ v : Byte) (s : State) : State := subtract v s

/-- SLO after the store: carry from the byte read, then ORA of the shifted byte (R324). -/
def afterSlo (m v : Byte) (s : State) : State := orA v (s.setFlagTo .c (m.getLsbD 7))

/-- RLA after the store: carry from the byte read, then AND of the rotated byte (R325). -/
def afterRla (m v : Byte) (s : State) : State := andA v (s.setFlagTo .c (m.getLsbD 7))

/-- SRE after the store: carry from the byte read, then EOR of the shifted byte (R326). -/
def afterSre (m v : Byte) (s : State) : State := eorA v (s.setFlagTo .c (m.getLsbD 0))

/-- RRA after the store: carry from the byte read, then ADC of the rotated byte (R327). -/
def afterRra (m v : Byte) (s : State) : State := addWithCarry v (s.setFlagTo .c (m.getLsbD 0))

/-- The body of ALR (R328). -/
def andShiftA (m : Byte) (s : State) : State :=
  resultA ((s.a &&& m) >>> 1) (s.setFlagTo .c ((s.a &&& m).getLsbD 0))

/-- The body of ANC (R329). -/
def andCarryA (m : Byte) (s : State) : State :=
  (andA m s).setFlagTo .c ((s.a &&& m).getLsbD 7)

/-! ### One meaning per constructor -/

/-! LAX (R320) -/

def execLaxIzx (zp : Byte) (s : State) : Out := readOp 6 true loadAX (eaIzx zp s)
def execLaxZp0 (zp : Byte) (s : State) : Out := readOp 3 true loadAX (eaZp0 zp s)
def execLaxAbs (w : Addr) (s : State) : Out := readOp 4 true loadAX (eaAbs w s)
def execLaxIzy (zp : Byte) (s : State) : Out := readOp 5 true loadAX (eaIzy zp s)
def execLaxZpy (zp : Byte) (s : State) : Out := readOp 4 true loadAX (eaZpy zp s)
def execLaxAby (w : Addr) (s : State) : Out := readOp 4 true loadAX (eaAby w s)

/-! SAX (R321) -/

def execSaxIzx (zp : Byte) (s : State) : Out := storeOp 6 valueAX (eaIzx zp s)
def execSaxZp0 (zp : Byte) (s : State) : Out := storeOp 3 valueAX (eaZp0 zp s)
def execSaxAbs (w : Addr) (s : State) : Out := storeOp 4 valueAX (eaAbs w s)
def execSaxZpy (zp : Byte) (s : State) : Out := storeOp 4 valueAX (eaZpy zp s)

/-! DCP (R322) -/

def execDcpIzx (zp : Byte) (s : State) : Out := rmwOp 8 decResult afterDcp (eaIzx zp s)
def execDcpZp0 (zp : Byte) (s : State) : Out := rmwOp 5 decResult afterDcp (eaZp0 zp s)
def execDcpAbs (w : Addr) (s : State) : Out := rmwOp 6 decResult afterDcp (eaAbs w s)
def execDcpIzy (zp : Byte) (s : State) : Out := rmwOp 8 decResult afterDcp (eaIzy zp s)
def execDcpZpx (zp : Byte) (s : State) : Out := rmwOp 6 decResult afterDcp (eaZpx zp s)
def execDcpAby (w : Addr) (s : State) : Out := rmwOp 7 decResult afterDcp (eaAby w s)
def execDcpAbx (w : Addr) (s : State) : Out := rmwOp 7 decResult afterDcp (eaAbx w s)

/-! ISC (R323) -/

def execIscIzx (zp : Byte) (s : State) : Out := rmwOp 8 incResult afterIsc (eaIzx zp s)
def execIscZp0 (zp : Byte) (s : State) : Out := rmwOp 5 incResult afterIsc (eaZp0 zp s)
def execIscAbs (w : Addr) (s : State) : Out := rmwOp 6 incResult afterIsc (eaAbs w s)
def execIscIzy (zp : Byte) (s : State) : Out := rmwOp 8 incResult afterIsc (eaIzy zp s)
def execIscZpx (zp : Byte) (s : State) : Out := rmwOp 6 incResult afterIsc (eaZpx zp s)
def execIscAby (w : Addr) (s : State) : Out := rmwOp 7 incResult afterIsc (eaAby w s)
def execIscAbx (w : Addr) (s : State) : Out := rmwOp 7 incResult afterIsc (eaAbx w s)

/-! SLO (R324) -/

def execSloIzx (zp : Byte) (s : State) : Out := rmwOp 8 aslByte afterSlo (eaIzx zp s)
def execSloZp0 (zp : Byte) (s : State) : Out := rmwOp 5 aslByte afterSlo (eaZp0 zp s)
def execSloAbs (w : Addr) (s : State) : Out := rmwOp 6 aslByte afterSlo (eaAbs w s)
def execSloIzy (zp : Byte) (s : State) : Out := rmwOp 8 aslByte afterSlo (eaIzy zp s)
def execSloZpx (zp : Byte) (s : State) : Out := rmwOp 6 aslByte afterSlo (eaZpx zp s)
def execSloAby (w : Addr) (s : State) : Out := rmwOp 7 aslByte afterSlo (eaAby w s)
def execSloAbx (w : Addr) (s : State) : Out := rmwOp 7 aslByte afterSlo (eaAbx w s)

/-! RLA (R325) -/

def execRlaIzx (zp : Byte) (s : State) : Out := rmwOp 8 rolResult afterRla (eaIzx zp s)
def execRlaZp0 (zp : Byte) (s : State) : Out := rmwOp 5 rolResult afterRla (eaZp0 zp s)
def execRlaAbs (w : Addr) (s : State) : Out := rmwOp 6 rolResult afterRla (eaAbs w s)
def execRlaIzy (zp : Byte) (s : State) : Out := rmwOp 8 rolResult afterRla (eaIzy zp s)
def execRlaZpx (zp : Byte) (s : State) : Out := rmwOp 6 rolResult afterRla (eaZpx zp s)
def execRlaAby (w : Addr) (s : State) : Out := rmwOp 7 rolResult afterRla (eaAby w s)
def execRlaAbx (w : Addr) (s : State) : Out := rmwOp 7 rolResult afterRla (eaAbx w s)

/-! SRE (R326) -/

def execSreIzx (zp : Byte) (s : State) : Out := rmwOp 8 lsrByte afterSre (eaIzx zp s)
def execSreZp0 (zp : Byte) (s : State) : Out := rmwOp 5 lsrByte afterSre (eaZp0 zp s)
def execSreAbs (w : Addr) (s : State) : Out := rmwOp 6 lsrByte afterSre (eaAbs w s)
def execSreIzy (zp : Byte) (s : State) : Out := rmwOp 8 lsrByte afterSre (eaIzy zp s)
def execSreZpx (zp : Byte) (s : State) : Out := rmwOp 6 lsrByte afterSre (eaZpx zp s)
def execSreAby (w : Addr) (s : State) : Out := rmwOp 7 lsrByte afterSre (eaAby w s)
def execSreAbx (w : Addr) (s : State) : Out := rmwOp 7 lsrByte afterSre (eaAbx w s)

/-! RRA (R327) -/

def execRraIzx (zp : Byte) (s : State) : Out := rmwOp 8 rorResult afterRra (eaIzx zp s)
def execRraZp0 (zp : Byte) (s : State) : Out := rmwOp 5 rorResult afterRra (eaZp0 zp s)
def execRraAbs (w : Addr) (s : State) : Out := rmwOp 6 rorResult afterRra (eaAbs w s)
def execRraIzy (zp : Byte) (s : State) : Out := rmwOp 8 rorResult afterRra (eaIzy zp s)
def execRraZpx (zp : Byte) (s : State) : Out := rmwOp 6 rorResult afterRra (eaZpx zp s)
def execRraAby (w : Addr) (s : State) : Out := rmwOp 7 rorResult afterRra (eaAby w s)
def execRraAbx (w : Addr) (s : State) : Out := rmwOp 7 rorResult afterRra (eaAbx w s)

/-! ALR (R328) -/

def execAlrImm (imm : Byte) (s : State) : Out := immOp 2 andShiftA imm s

/-! ANC (R329) -/

def execAnc0B (imm : Byte) (s : State) : Out := immOp 2 andCarryA imm s
def execAnc2B (imm : Byte) (s : State) : Out := immOp 2 andCarryA imm s

/-! NOP, undocumented (R330) -/

def execNop04 (zp : Byte) (s : State) : Out := nopOp 3 (eaZp0 zp s)
def execNop0C (w : Addr) (s : State) : Out := nopOp 4 (eaAbs w s)
def execNop14 (zp : Byte) (s : State) : Out := nopOp 4 (eaZpx zp s)
def execNop1A (s : State) : Out := impOp 2 (fun t => t) s
def execNop1C (w : Addr) (s : State) : Out := nopOp 4 (eaAbx w s)
def execNop34 (zp : Byte) (s : State) : Out := nopOp 4 (eaZpx zp s)
def execNop3A (s : State) : Out := impOp 2 (fun t => t) s
def execNop3C (w : Addr) (s : State) : Out := nopOp 4 (eaAbx w s)
def execNop44 (zp : Byte) (s : State) : Out := nopOp 3 (eaZp0 zp s)
def execNop54 (zp : Byte) (s : State) : Out := nopOp 4 (eaZpx zp s)
def execNop5A (s : State) : Out := impOp 2 (fun t => t) s
def execNop5C (w : Addr) (s : State) : Out := nopOp 4 (eaAbx w s)
def execNop64 (zp : Byte) (s : State) : Out := nopOp 3 (eaZp0 zp s)
def execNop74 (zp : Byte) (s : State) : Out := nopOp 4 (eaZpx zp s)
def execNop7A (s : State) : Out := impOp 2 (fun t => t) s
def execNop7C (w : Addr) (s : State) : Out := nopOp 4 (eaAbx w s)
def execNop80 (_imm : Byte) (s : State) : Out := impOp 2 (fun t => t) s
def execNop82 (_imm : Byte) (s : State) : Out := impOp 2 (fun t => t) s
def execNop89 (_imm : Byte) (s : State) : Out := impOp 2 (fun t => t) s
def execNopC2 (_imm : Byte) (s : State) : Out := impOp 2 (fun t => t) s
def execNopD4 (zp : Byte) (s : State) : Out := nopOp 4 (eaZpx zp s)
def execNopDA (s : State) : Out := impOp 2 (fun t => t) s
def execNopDC (w : Addr) (s : State) : Out := nopOp 4 (eaAbx w s)
def execNopE2 (_imm : Byte) (s : State) : Out := impOp 2 (fun t => t) s
def execNopF4 (zp : Byte) (s : State) : Out := nopOp 4 (eaZpx zp s)
def execNopFA (s : State) : Out := impOp 2 (fun t => t) s
def execNopFC (w : Addr) (s : State) : Out := nopOp 4 (eaAbx w s)

/-! STP (R332) -/

def execStp (_op : Byte) (s : State) : Out := jamOp s

/-! RESERVED (R333) -/

def execRsvImm (_op : Byte) (_imm : Byte) (s : State) : Out := jamOp s
def execRsvIzy (_zp : Byte) (s : State) : Out := jamOp s
def execRsvAby (_op : Byte) (_w : Addr) (s : State) : Out := jamOp s
def execRsvAbx (_w : Addr) (s : State) : Out := jamOp s

end Sys2Proof.Machine
end

