-- ==== Sys2Proof/Machine/Dma.lean ====
section
/-! DEFINITION. The OAM-DMA state machine (`61_bus_mapper_dma.md` R470 to R476). -/

namespace Sys2Proof.Machine

/-- The source address of the byte a transfer is at (`61` R472). -/
def dmaSource (d : Dma) : Addr := wordOf d.page d.offset

/-- The first slot of a pair: the source byte is read into the latch (`61` R472). -/
def dmaReadSlot (s : State) : State :=
  let (v, s1) := memRead s (dmaSource s.dma)
  s1.setDma { s1.dma with data := v }

/-- The second slot of a pair: the latch is written to object memory at `dma.offset` itself, and the
transfer ends when the offset wraps to 0 (`61` R472, R476). -/
def dmaWriteSlot (s : State) : State :=
  let s1 := s.setPpu { s.ppu with oam := Memory.write s.ppu.oam s.dma.offset.toNat s.dma.data }
  let o := s.dma.offset + 1
  if o = 0 then s1.setDma { s1.dma with offset := o, active := false, align := true }
  else s1.setDma { s1.dma with offset := o }

/-- `DmaStep()` on the processor slot of master tick `m`: the alignment slot, or a read on an odd tick
and a write on an even one (`61` R472, R473). -/
def dmaStep (m : Nat) (s : State) : State :=
  let s1 := s.setDma { s.dma with align := false }
  if s.dma.align ∧ m % 2 = 0 then s1
  else if m % 2 = 1 then dmaReadSlot s1
  else dmaWriteSlot s1

end Sys2Proof.Machine
end

