-- ==== Sys2Proof/Machine/PpuClock.lean ====
section
/-! DEFINITION. The rendering pipeline: one call of `PpuClock()` (`63_ppu_pipeline.md` R560 to R620). -/

namespace Sys2Proof.Machine

/-- `RenderingOn` (`63` R562). -/
def Ppu.renderingOn (p : Ppu) : Bool := p.bgEn || p.sprEn

/-- `VblankStart()` (`63` R566). -/
def vblankStart (p : Ppu) : Ppu := { p with vblank := true, nmiRequest := p.nmiRequest || p.nmiEn }

/-- `ClearFlags()` (`63` R567). -/
def clearFlags (p : Ppu) : Ppu :=
  { p with vblank := false, spr0hit := false, sprovf := false, sprList := [] }

/-! ### Background pipeline -/

/-- `ShiftBg()` (`63` R571). -/
def shiftBg (p : Ppu) : Ppu :=
  { p with shPatLo := p.shPatLo <<< 1, shPatHi := p.shPatHi <<< 1,
           shAttLo := p.shAttLo <<< 1, shAttHi := p.shAttHi <<< 1 }

/-- The low byte of a shifter replaced. -/
def loadLow (r : BitVec 16) (v : Byte) : BitVec 16 := (r &&& 0xFF00#16) ||| v.setWidth 16

/-- One bit widened to eight (`63` R572). -/
def widenBit (b : Bool) : Byte := if b then 0xFF#8 else 0x00#8

/-- `LoadShifters()` (`63` R572). -/
def loadShifters (p : Ppu) : Ppu :=
  { p with shPatLo := loadLow p.shPatLo p.nxLo, shPatHi := loadLow p.shPatHi p.nxHi,
           shAttLo := loadLow p.shAttLo (widenBit (p.nxAtt.getLsbD 0)),
           shAttHi := loadLow p.shAttHi (widenBit (p.nxAtt.getLsbD 1)) }

/-- The address of `FetchNametable()` (`63` R572). -/
def nametableAddr (v : BitVec 15) : BitVec 14 := 0x2000#14 ||| (v.extractLsb' 0 12).setWidth 14

/-- `FetchNametable()` (`63` R572). -/
def fetchNametable (c : Cartridge) (p : Ppu) : Ppu :=
  { p with nxId := ppuRead c p (nametableAddr p.v) }

/-- The address of `FetchAttribute()` (`63` R573). -/
def attributeAddr (v : BitVec 15) : BitVec 14 :=
  0x23C0#14 ||| ((BitVec.ofBool (Loopy.ny v)).setWidth 14 <<< 11)
    ||| ((BitVec.ofBool (Loopy.nx v)).setWidth 14 <<< 10)
    ||| (((Loopy.cy v).setWidth 14 >>> 2) <<< 3) ||| ((Loopy.cx v).setWidth 14 >>> 2)

/-- The right shift that brings a tile's two bits of an attribute byte to the bottom (`63` R573). -/
def attributeShift (v : BitVec 15) : Nat :=
  (if (Loopy.cy v).getLsbD 1 then 4 else 0) + (if (Loopy.cx v).getLsbD 1 then 2 else 0)

/-- `FetchAttribute()` (`63` R573). -/
def fetchAttribute (c : Cartridge) (p : Ppu) : Ppu :=
  { p with nxAtt := (ppuRead c p (attributeAddr p.v) >>> attributeShift p.v).extractLsb' 0 2 }

/-- The address of `FetchPatternLow()` (`63` R574). -/
def patternAddr (p : Ppu) : BitVec 14 :=
  ((BitVec.ofBool p.bgHalf).setWidth 14 <<< 12) + (p.nxId.setWidth 14 <<< 4)
    + (Loopy.fy p.v).setWidth 14

/-- `FetchPatternLow()` (`63` R574). -/
def fetchPatternLow (c : Cartridge) (p : Ppu) : Ppu := { p with nxLo := ppuRead c p (patternAddr p) }

/-- `FetchPatternHigh()` (`63` R575). -/
def fetchPatternHigh (c : Cartridge) (p : Ppu) : Ppu :=
  { p with nxHi := ppuRead c p (patternAddr p + 8#14) }

/-- The horizontal increment of a scroll position (`63` R576). -/
def stepX (v : BitVec 15) : BitVec 15 :=
  if Loopy.cx v = 31#5 then Loopy.setNx (Loopy.setCx v 0#5) (!Loopy.nx v)
  else Loopy.setCx v (Loopy.cx v + 1#5)

/-- The vertical increment of a scroll position (`63` R579). -/
def stepY (v : BitVec 15) : BitVec 15 :=
  if Loopy.fy v < 7#3 then Loopy.setFy v (Loopy.fy v + 1#3)
  else
    let u := Loopy.setFy v 0#3
    if Loopy.cy v = 29#5 then Loopy.setNy (Loopy.setCy u 0#5) (!Loopy.ny v)
    else if Loopy.cy v = 31#5 then Loopy.setCy u 0#5
    else Loopy.setCy u (Loopy.cy v + 1#5)

/-- `IncX()` (`63` R576, R562). -/
def incX (p : Ppu) : Ppu := if p.renderingOn then { p with v := stepX p.v } else p

/-- `IncY()` (`63` R579, R562). -/
def incY (p : Ppu) : Ppu := if p.renderingOn then { p with v := stepY p.v } else p

/-- `CopyX()` (`63` R580, R562). -/
def copyX (p : Ppu) : Ppu :=
  if p.renderingOn then { p with v := Loopy.setNx (Loopy.setCx p.v (Loopy.cx p.t)) (Loopy.nx p.t) }
  else p

/-- `CopyY()` (`63` R581, R562). -/
def copyY (p : Ppu) : Ppu :=
  if p.renderingOn then
    { p with v := Loopy.setCy (Loopy.setNy (Loopy.setFy p.v (Loopy.fy p.t)) (Loopy.ny p.t))
                    (Loopy.cy p.t) }
  else p

/-- The phase action of `BgStep(c)` (`63` R570). -/
def bgPhase (c : Cartridge) (k : Nat) (p : Ppu) : Ppu :=
  if (k - 1) % 8 = 0 then fetchNametable c (loadShifters p)
  else if (k - 1) % 8 = 2 then fetchAttribute c p
  else if (k - 1) % 8 = 4 then fetchPatternLow c p
  else if (k - 1) % 8 = 6 then fetchPatternHigh c p
  else if (k - 1) % 8 = 7 then incX p
  else p

/-- `BgStep(c)` (`63` R570). -/
def bgStep (c : Cartridge) (k : Nat) (p : Ppu) : Ppu := bgPhase c k (shiftBg p)

/-! ### Sprite pipeline -/

/-- Byte `j` (0 Y, 1 tile, 2 attribute, 3 X) of object `i` (`62` R535). -/
def oamByte (p : Ppu) (i : Fin 64) (j : Nat) : Byte := Memory.read p.oam (4 * i.val + j)

/-- The sprite height (`63` R595). -/
def spriteHeight (p : Ppu) : Nat := if p.spr16 then 16 else 8

/-- Object `i` is selected on scanline `s`: `0 ≤ s − Y < h` (`63` R596). -/
def spriteInRange (p : Ppu) (s : Int) (i : Fin 64) : Bool :=
  let d : Int := s - ((oamByte p i 0).toNat : Int)
  decide (0 ≤ d) && decide (d < (spriteHeight p : Int))

/-- The objects selected on a scanline, in ascending order, all of them (`63` R596). -/
def spriteMatches (p : Ppu) (s : Int) : List (Fin 64) :=
  (List.finRange 64).filter (spriteInRange p s)

/-- `SpriteEval(s)`: the first eight matches are listed, a ninth sets the overflow flag (`63` R596). -/
def spriteEval (s : Int) (p : Ppu) : Ppu :=
  { p with sprList := (spriteMatches p s).take 8,
           sprovf := p.sprovf || decide (8 < (spriteMatches p s).length) }

/-- `SpritePatternAddr(tile, attr, row)` (`63` R601). -/
def spritePatternAddr (p : Ppu) (tile attr : Byte) (row : Nat) : BitVec 14 :=
  let r : Nat := if attr.getLsbD 7 then spriteHeight p - 1 - row else row
  if p.spr16 then
    ((BitVec.ofBool (tile.getLsbD 0)).setWidth 14 <<< 12)
      ||| (((tile &&& 0xFE#8).setWidth 14 + (if 8 ≤ r then 1#14 else 0#14)) <<< 4)
      ||| BitVec.ofNat 14 (r % 8)
  else
    ((BitVec.ofBool p.sprHalf).setWidth 14 <<< 12) ||| (tile.setWidth 14 <<< 4) ||| BitVec.ofNat 14 r

/-- A pixel of one layer: its two bits and its palette number. -/
structure Pixel where
  p   : BitVec 2
  pal : BitVec 3
  deriving DecidableEq, Repr

/-- A sprite pixel: also its priority bit and whether object 0 supplied it (`63` R600). -/
structure SpritePixel where
  px     : Pixel
  behind : Bool
  zero   : Bool
  deriving DecidableEq, Repr

/-- The transparent pixel. -/
def Pixel.clear : Pixel := { p := 0, pal := 0 }

/-- The transparent sprite pixel (`63` R600). -/
def SpritePixel.clear : SpritePixel := { px := Pixel.clear, behind := false, zero := false }

/-- Two bits of a pattern at a bit position: high plane over low plane (`62` R532). -/
def planeBits (hi lo : Byte) (b : Nat) : BitVec 2 :=
  BitVec.ofBool (hi.getLsbD b) ++ BitVec.ofBool (lo.getLsbD b)

/-- What object `i` shows at a column of a scanline: nothing outside its columns, outside its rows, or
where it is transparent (`63` R600). -/
def spritePixelOf (c : Cartridge) (p : Ppu) (s : Int) (col : Nat) (i : Fin 64) :
    Option SpritePixel :=
  let attr := oamByte p i 2
  let dx : Int := (col : Int) - ((oamByte p i 3).toNat : Int)
  let row : Int := s - 1 - ((oamByte p i 0).toNat : Int)
  if dx < 0 ∨ 7 < dx then none
  else if row < 0 ∨ (spriteHeight p : Int) ≤ row then none
  else
    let at0 := spritePatternAddr p (oamByte p i 1) attr row.toNat
    let b : Nat := if attr.getLsbD 6 then dx.toNat else 7 - dx.toNat
    let q := planeBits (ppuRead c p (at0 + 8#14)) (ppuRead c p at0) b
    if q = 0 then none
    else some { px := { p := q, pal := 4#3 + (attr.extractLsb' 0 2).setWidth 3 },
                behind := attr.getLsbD 5, zero := decide (i.val = 0) }

/-- `SpritePixel(s, col)`: the first listed object that shows something wins (`63` R600). -/
def spritePixel (c : Cartridge) (p : Ppu) (s : Int) (col : Nat) : SpritePixel :=
  if p.sprEn then (p.sprList.findSome? (spritePixelOf c p s col)).getD SpritePixel.clear
  else SpritePixel.clear

/-! ### Pixel resolution -/

/-- `BgPixel()` (`63` R605). -/
def bgPixel (p : Ppu) : Pixel :=
  if p.bgEn then
    let k := 15 - p.fineX.toNat
    { p := BitVec.ofBool (p.shPatHi.getLsbD k) ++ BitVec.ofBool (p.shPatLo.getLsbD k),
      pal := (BitVec.ofBool (p.shAttHi.getLsbD k) ++ BitVec.ofBool (p.shAttLo.getLsbD k)).setWidth 3 }
  else Pixel.clear

/-- The condition of the sprite-zero hit at cycle `k` (`63` R610). -/
def spriteZeroHit (p : Ppu) (k : Nat) (bg : Pixel) (sp : SpritePixel) : Bool :=
  decide (bg.p ≠ 0) && decide (sp.px.p ≠ 0) && sp.zero && p.bgEn && p.sprEn
    && ((p.bgLeft && p.sprLeft) || decide (9 ≤ k))

/-- The priority multiplexer; a transparent result shows the backdrop (`63` R611). -/
def muxPixel (bg : Pixel) (sp : SpritePixel) : Pixel :=
  let r := if sp.px.p = 0 then bg else if bg.p = 0 ∨ sp.behind = false then sp.px else bg
  if r.p = 0 then Pixel.clear else r

/-- The palette address of a pixel (`63` R612). -/
def pixelAddr (r : Pixel) : BitVec 14 := 0x3F00#14 + (r.pal.setWidth 14 <<< 2) + r.p.setWidth 14

/-- One frame-buffer entry written (`10_state.md` R53). -/
def frameWrite (f : List Memory) (row col : Nat) (v : Byte) : List Memory :=
  f.set row (Memory.write (f.getD row []) col v)

/-- One frame-buffer entry (`10_state.md` R53, `64` R645). -/
def frameRead (f : List Memory) (row col : Nat) : Byte := Memory.read (f.getD row []) col

/-- `Pixel(s, c)`: both layers, the hit flag, the multiplexer and the frame buffer (`63` R605 to
R612). -/
def drawPixel (c : Cartridge) (s : Int) (k : Nat) (p : Ppu) : Ppu :=
  let bg := bgPixel p
  let sp := spritePixel c p s (k - 1)
  let colour := ppuRead c p (pixelAddr (muxPixel bg sp)) &&& 0x3F#8
  { p with spr0hit := p.spr0hit || spriteZeroHit p k bg sp,
           frame := frameWrite p.frame s.toNat (k - 1) colour }

/-! ### The clock -/

/-- `Advance()` (`63` R620). -/
def advance (p : Ppu) : Ppu :=
  if p.cycle + 1 = Config.ppuCycles then
    { p with cycle := 0, scanline := if p.scanline + 1 = 261 then -1 else p.scanline + 1 }
  else { p with cycle := p.cycle + 1 }

/-- Applying an action under a condition, as the steps of `PpuClock()` do. -/
def onlyIf (b : Bool) (f : Ppu → Ppu) (p : Ppu) : Ppu := if b then f p else p

/-- The steps of `PpuClock()` on the pre-render and visible scanlines, in order (`63` R561). -/
def renderSteps (c : Cartridge) (s : Int) (k : Nat) (p : Ppu) : Ppu :=
  let p := onlyIf (decide (s = -1 ∧ k = 1)) clearFlags p
  let p := onlyIf (decide (2 ≤ k ∧ k ≤ 257 ∨ 321 ≤ k ∧ k ≤ 337)) (bgStep c k) p
  let p := onlyIf (decide (k = 256)) incY p
  let p := onlyIf (decide (k = 257)) (fun q => copyX (loadShifters q)) p
  let p := onlyIf (decide (s = -1 ∧ 280 ≤ k ∧ k ≤ 304)) copyY p
  onlyIf (decide (0 ≤ s ∧ k = 257)) (spriteEval s) p

/-- `PpuClock()`, with the position read at entry (`63` R561). -/
def ppuClock (c : Cartridge) (p : Ppu) : Ppu :=
  let s := p.scanline
  let k := p.cycle
  let q := onlyIf (decide (-1 ≤ s ∧ s ≤ 239)) (renderSteps c s k) p
  let q := onlyIf (decide (s = 241 ∧ k = 1)) vblankStart q
  let q := onlyIf (decide (0 ≤ s ∧ s ≤ 239 ∧ 1 ≤ k ∧ k ≤ 256)) (drawPixel c s k) q
  advance q

end Sys2Proof.Machine
end

