-- ==== Sys2Proof/Machine/Clock.lean ====
section
/-! DEFINITION. Fetching an instruction, the CPU's `clock()`, the end of a tick and the master tick
(`40` R130 to R136, `60` R420, R421, `64` R631 to R642). -/

namespace Sys2Proof.Machine

/-! ### Fetch -/

/-- One byte of the instruction stream read, and `PC` advanced past it (`40` R131, R143). -/
def fetchByte (s : State) : Byte × State :=
  let (v, s1) := memRead s s.pc
  (v, s1.setPc (s.pc + 1))

/-- One byte of the instruction stream passed over without a bus read (`40` R142, log 12): the byte that
is there, and `PC` advanced. -/
def skipByte (s : State) : Byte × State := (busValue s s.pc, s.setPc (s.pc + 1))

/-- The operand bytes after an opcode, and the machine with `PC` at the following instruction (`40` R130,
R142 to R152). -/
def fetchOperands (op : Byte) (s : State) : Byte × Byte × State :=
  if instrLength op = 1 then (0#8, 0#8, s)
  else if instrLength op = 2 then
    let (b, s1) := if operandUnread op then skipByte s else fetchByte s
    (b, 0#8, s1)
  else
    let (b, s1) := fetchByte s
    let (c, s2) := fetchByte s1
    (b, c, s2)

/-- The instruction at `PC`, and the machine after its bytes were fetched (`40` R130 steps 1 to 3). -/
def fetch (s : State) : Instr × State :=
  let (op, s1) := fetchByte s
  let (b, c, s2) := fetchOperands op s1
  (decodeBytes op b c, s2)

/-! ### The CPU's clock -/

/-- Going on from an outcome that is a next state. -/
def andThen (o : Out) (f : State → Out) : Out :=
  match o with
  | .next s => f s
  | .fault r => .fault r
  | .refused r => .refused r

/-- The decrement that ends every `clock()` (`40` R135); a Jammed CPU has no successor under `clock()`
(`93` U1). -/
def countDown (s : State) : State := if s.jammed then s else s.setCycles (s.cycles - 1)

/-- `clock()` (`40` R130). A Jammed CPU does nothing (log 5). -/
def clock (s : State) : Out :=
  if s.jammed then .next s
  else if s.cycles = 0 then
    andThen (exec (fetch s).1 (fetch s).2) (fun t => .next (countDown t))
  else .next (countDown s)

/-! ### The master tick -/

/-- `AudioClock()`: the collaborator is out of scope, no state of the core changes (`64` R634). -/
def audioClock (s : State) : State := s

/-- The picture processor's clock on the machine (`63` R561). -/
def ppuTick (s : State) : State := s.setPpu (ppuClock s.cart s.ppu)

/-- The processor slot: the DMA state machine instead of the CPU while a transfer is active (`64`
R631). -/
def processorSlot (m : Nat) (s : State) : Out :=
  if s.dma.active then .next (dmaStep m s) else clock s

/-- An interrupt delivered. It has the effect of its entry whatever the CPU's state, and a Jammed CPU runs
again after it (`60` R424; the choice `93` U2 leaves a model with a stuck state, log 6). -/
def deliver (entry : State → State) (s : State) : State := (entry s).setJammed false

/-- The interrupt priority encoder `IntSelect` at the end of a tick: reset over NMI over IRQ (`60` R421,
`64` R636, logs 9 and 10). -/
def intSelect (resetReq irqReq : Bool) (s : State) : State :=
  if resetReq then systemReset s
  else if s.ppu.nmiRequest then deliver nmi (s.setPpu { s.ppu with nmiRequest := false })
  else if irqReq && !s.flag .i then deliver irq s
  else s

/-- The end of a tick: the counter moves on, the requests of this boundary are taken from the list, and
the selection is made (`64` R631, R636, R637, R640; `60` R421). -/
def tickEnd (s : State) : Out :=
  let r := s.requests.headD { reset := false, irq := false }
  .next (intSelect r.reset r.irq ((s.setMaster (s.master + 1)).setRequests s.requests.tail))

/-- What a tick does before its end: the picture processor, the audio collaborator, and on a processor
slot the CPU or the DMA state machine (`64` R631). -/
def tickBody (s : State) : Out :=
  let m := s.master
  let s1 := ppuTick s
  let s2 := if m % Config.apuDivider = 0 then audioClock s1 else s1
  if m % Config.cpuDivider = Config.cpuPhase then processorSlot m s2 else .next s2

/-- `Tick()` (`64` R631), and the requests of the host at the boundary after it (`60` R421). -/
def tick (s : State) : Out := andThen (tickBody s) tickEnd

/-- The loop of `StepInstruction()`, for at most `fuel` ticks; `seen` says that the remaining cycles have
been nonzero. `none`: the loop has not ended within the fuel (`64` R642). -/
def drainInstruction : Nat → Bool → State → Option Out
  | 0, _, _ => none
  | fuel + 1, seen, s =>
    match tick s with
    | .next t =>
      if (seen || decide (0 < t.cycles)) && decide (t.cycles = 0) then some (.next t)
      else drainInstruction fuel (seen || decide (0 < t.cycles)) t
    | .fault r => some (.fault r)
    | .refused r => some (.refused r)

/-- `StepInstruction()`, the host's loop over `Tick()` (`64` R642, log 4). -/
def stepInstruction (fuel : Nat) (s : State) : Option Out :=
  drainInstruction fuel (decide (0 < s.cycles)) s

/-! ### Placing an instruction where the next tick fetches it -/

/-- The three bytes of a word stored from address `a` on, in internal RAM. -/
def storeInRam (s : State) (a : Addr) (nbits w : Nat) : State :=
  let bs := tableBytes nbits w
  s.setRam (Memory.write (Memory.write (Memory.write s.ram (ramIndex a) (bs.getD 0 0#8))
    (ramIndex (a + 1)) (bs.getD 1 0#8)) (ramIndex (a + 2)) (bs.getD 2 0#8))

/-- The three bytes of a word stored from address `a` on, in program memory behind the mapper. -/
def storeInPrg (s : State) (a : Addr) (nbits w : Nat) : State :=
  let bs := tableBytes nbits w
  s.setCart { s.cart with
    prg := Memory.write (Memory.write (Memory.write s.cart.prg (s.cart.prgIndex a) (bs.getD 0 0#8))
      (s.cart.prgIndex (a + 1)) (bs.getD 1 0#8)) (s.cart.prgIndex (a + 2)) (bs.getD 2 0#8) }

/-- The machine at an instruction boundary in a processor slot: what the next tick's fetch needs besides
the bytes (log 3). -/
def atFetch (s : State) : State :=
  { s with cycles := 0, jammed := false, dma := { s.dma with active := false },
           master := s.master - s.master % Config.cpuDivider }

/-- The bytes of a word stored at `PC`: in RAM or in program memory; where the byte at `PC` is a device
or nothing, `PC` is moved to 0x0000 first (log 3). -/
def placeWord (s : State) (nbits w : Nat) : State :=
  if s.pc < 0x1FFE#16 then storeInRam (atFetch s) s.pc nbits w
  else if 0x8000#16 ≤ s.pc ∧ s.pc ≤ 0xFFFD#16 then storeInPrg (atFetch s) s.pc nbits w
  else storeInRam ((atFetch s).setPc 0#16) 0#16 nbits w

end Sys2Proof.Machine
end

