-- ==== Sys2Proof/Machine/Step.lean ====
section
/-! DEFINITION. One step of the machine is one master tick (`64_clock_orchestrator.md` R630, R631,
log 4). -/

namespace Sys2Proof.Machine

/-- One step: `Tick()` and the boundary after it. -/
def step : State → Host.Outcome State Fault Refusal := tick

/-- `s` with an instruction stored where the next step fetches it (log 3). -/
def State.withFetchWord (s : State) (nbits w : Nat) : State := placeWord s nbits w

end Sys2Proof.Machine
end

