-- ==== Sys2Proof/Safety.lean ====
section
/-! DEFINITION. What a state of a run satisfies, and what counts as a safe outcome, in the terms the
statements use. -/

namespace Sys2Proof.Machine

/-- A memory of `n` bytes in canonical form. -/
abbrev Memory.ok (n : Nat) (m : Memory) : Prop := Memory.wf m ∧ Memory.within n m

/-- The palette's memory: the four aliased indices are never stored (`62` R534, `10` R48). -/
abbrev Memory.palOk (m : Memory) : Prop :=
  Memory.ok 32 m ∧ ∀ c ∈ m, c.1 ≠ 0x10 ∧ c.1 ≠ 0x14 ∧ c.1 ≠ 0x18 ∧ c.1 ≠ 0x1C

/-- One row of the frame buffer: 256 six-bit colour indices (`10` R53). -/
abbrev Memory.rowOk (m : Memory) : Prop := Memory.ok 256 m ∧ ∀ c ∈ m, c.2.toNat < 64

/-- The CPU part: the always-set flag is 1, break is 0, at most 8 cycles remain (`10` R24, R25, R26). -/
abbrev State.cpuOk (s : State) : Prop :=
  s.flag .u = true ∧ s.flag .b = false ∧ s.cycles ≤ 8

/-- The DMA part: no transfer in progress means aligned and at offset 0; a transfer that has not begun is
at offset 0 (`61` R471, R472). -/
abbrev Dma.ok (d : Dma) : Prop :=
  (d.active = false → d.align = true) ∧ (d.align = true → d.offset = 0)

/-- The cartridge part: at least one program bank, both arrays inside their sizes (`61` R450, `10`
R34). -/
abbrev Cartridge.ok (c : Cartridge) : Prop :=
  1 ≤ c.prgBanks ∧ Memory.ok (c.prgBanks * Config.prgBankBytes) c.prg
    ∧ Memory.ok (max c.chrBanks 1 * Config.chrBankBytes) c.chr

/-- The picture processor between two steps: its position lies on the 341 by 262 grid, fine-X is 3 bits,
the sprite list is an ascending list of at most eight objects, no NMI request is left over, its memories
are in canonical form and inside their sizes (`10` R36 to R53; `64` R636). -/
structure Ppu.Ok (p : Ppu) : Prop where
  cycle      : p.cycle < 341
  scanline   : -1 ≤ p.scanline ∧ p.scanline ≤ 260
  fineX      : p.fineX.toNat < 8
  sprCount   : p.sprList.length ≤ 8
  sprOrder   : p.sprList.Pairwise (fun i j => i < j)
  nmiRequest : p.nmiRequest = false
  oam        : Memory.ok 256 p.oam
  nt0        : Memory.ok 1024 p.nt0
  nt1        : Memory.ok 1024 p.nt1
  pal        : Memory.palOk p.pal
  frameRows  : p.frame.length = 240
  frame      : ∀ r ∈ p.frame, Memory.rowOk r

/-- The invariant of the machine between two steps. -/
structure State.Inv (s : State) : Prop where
  cpu  : s.cpuOk
  ram  : Memory.ok 2048 s.ram
  dma  : s.dma.ok
  cart : s.cart.ok
  ppu  : s.ppu.Ok

/-- A safe outcome of a step: the machine goes on. No rule of the running machine stops it (`60` R400,
R401, R402). -/
def Safe (o : Out) : Prop := ∃ t, o = .next t

/-- The host asks for nothing at the coming boundary, and the picture processor's clock of this tick
raises no NMI: nothing but the tick itself happens (`60` R405, R421). -/
def State.quiet (s : State) : Prop :=
  s.requests.headD { reset := false, irq := false } = { reset := false, irq := false }
    ∧ (ppuClock s.cart s.ppu).nmiRequest = false

end Sys2Proof.Machine

/-! ## The words of the statements: addresses and flags as numbers, straight from the rules -/

namespace Sys2Proof.Rule

open Sys2Proof.Machine

/-- A number taken as a 16-bit address. -/
abbrev word (n : Nat) : Addr := BitVec.ofNat 16 n

/-- The number at a key of internal RAM. -/
def peek (s : State) (k : Nat) : Nat := (Memory.read s.ram k).toNat

/-- The status byte with given flags, in the order N V B D I Z C; the always-set flag is 1 (`10` R23,
R24). -/
def statusByte (n v b d i z c : Bool) : Byte :=
  (BitVec.ofBool n ++ BitVec.ofBool v ++ 1#1 ++ BitVec.ofBool b ++ BitVec.ofBool d ++ BitVec.ofBool i
    ++ BitVec.ofBool z ++ BitVec.ofBool c : BitVec 8)

/-- The status after an instruction that writes no flag. -/
def sameFlags (s : State) : Byte :=
  statusByte (s.flag .n) (s.flag .v) (s.flag .b) (s.flag .d) (s.flag .i) (s.flag .z) (s.flag .c)

/-- The status after an instruction that writes Z and N from a result (`40` R139). -/
def flagsZN (s : State) (r : Byte) : Byte :=
  statusByte (decide (128 ≤ r.toNat)) (s.flag .v) (s.flag .b) (s.flag .d) (s.flag .i)
    (decide (r.toNat = 0)) (s.flag .c)

/-- The status after an instruction that also writes C. -/
def flagsCZN (s : State) (c : Bool) (r : Byte) : Byte :=
  statusByte (decide (128 ≤ r.toNat)) (s.flag .v) (s.flag .b) (s.flag .d) (s.flag .i)
    (decide (r.toNat = 0)) c

/-- The status after an instruction that also writes V. -/
def flagsVCZN (s : State) (v c : Bool) (r : Byte) : Byte :=
  statusByte (decide (128 ≤ r.toNat)) v (s.flag .b) (s.flag .d) (s.flag .i) (decide (r.toNat = 0)) c

/-- One flag written, the others as they were. -/
def flagSet (s : State) (f : StatusFlag) (on : Bool) : Byte :=
  statusByte (if f = .n then on else s.flag .n) (if f = .v then on else s.flag .v)
    (if f = .b then on else s.flag .b) (if f = .d then on else s.flag .d)
    (if f = .i then on else s.flag .i) (if f = .z then on else s.flag .z)
    (if f = .c then on else s.flag .c)

/-- The carry as a number. -/
def carry (s : State) : Nat := if s.flag .c then 1 else 0

/-! ### Effective addresses (`40` R143 to R152) -/

/-- ZPX: inside page zero (R144). -/
def zpx (zp : Byte) (s : State) : Nat := (zp.toNat + s.x.toNat) % 256

/-- ZPY: inside page zero (R145). -/
def zpy (zp : Byte) (s : State) : Nat := (zp.toNat + s.y.toNat) % 256

/-- ABX (R148). -/
def abx (w : Addr) (s : State) : Nat := (w.toNat + s.x.toNat) % 65536

/-- ABY (R149). -/
def aby (w : Addr) (s : State) : Nat := (w.toNat + s.y.toNat) % 65536

/-- The little-endian word at a place of page zero; its second byte wraps inside the page. -/
def pageZeroWord (k : Nat) (s : State) : Nat := peek s (k % 256) + 256 * peek s ((k + 1) % 256)

/-- IZX (R151). -/
def izx (zp : Byte) (s : State) : Nat := pageZeroWord (zp.toNat + s.x.toNat) s

/-- IZY (R152). -/
def izy (zp : Byte) (s : State) : Nat := (pageZeroWord zp.toNat s + s.y.toNat) % 65536

/-- 1 if two addresses lie on different pages, else 0 (R148, R149, R152; `44` R260). -/
def otherPage (m n : Nat) : Nat := if m / 256 = n / 256 then 0 else 1

/-! ### How an instruction reaches its operand -/

/-- A form of a reading instruction: its opcode, the operand it gets, the state after the operand was
read, its cycles. -/
structure Reading where
  instr   : Instr
  opcode  : Byte
  operand : Byte
  after   : State
  cycles  : Nat

/-- The immediate form: the operand is the byte fetched with the instruction (R142). -/
def immediate (i : Instr) (op m : Byte) (s : State) : Reading :=
  { instr := i, opcode := op, operand := m, after := s, cycles := 2 }

/-- A form that reads memory: one bus read at the effective address, with its side effects (R153). -/
def reading (i : Instr) (op : Byte) (s : State) (ea cycles : Nat) : Reading :=
  { instr := i, opcode := op, operand := busValue s (word ea), after := busEffect s (word ea),
    cycles := cycles }

/-- A form of an instruction that stores: its opcode, the address stored to, its cycles. -/
structure Storing where
  instr  : Instr
  opcode : Byte
  ea     : Nat
  cycles : Nat

/-- The byte a read-modify-write form reads. -/
def Storing.old (f : Storing) (s : State) : Byte := busValue s (word f.ea)

/-- The machine after a read-modify-write form's read and its write of a byte (R153, R76). -/
def Storing.written (f : Storing) (s : State) (v : Byte) : State :=
  memWrite (busEffect s (word f.ea)) (word f.ea) v

end Sys2Proof.Rule
end

