-- ==== Sys2Proof/Certificates/Slice0/Obligations.lean ====
section
/-! DEFINITION. The statements about the model, one `def Obligations.<Name> : Prop` each, and before them
the forms of every instruction as its rule lists them (opcode, effective address, cycles), written on
numbers and apart from the meanings. -/

namespace Sys2Proof.Rule

open Sys2Proof.Machine

/-! ### The forms of the instructions, from the "Operands" and "Cycles" lines of their rules -/

/-- The forms of LDA: opcodes, operands, cycles (R170). -/
def ldaForms (m zp : Byte) (w : Addr) (s : State) : List Reading :=
  [immediate (.ldaImm m) 0xA9#8 m s,
   reading (.ldaZp0 zp) 0xA5#8 s zp.toNat 3,
   reading (.ldaZpx zp) 0xB5#8 s (zpx zp s) 4,
   reading (.ldaAbs w) 0xAD#8 s w.toNat 4,
   reading (.ldaAbx w) 0xBD#8 s (abx w s) (4 + otherPage (abx w s) w.toNat),
   reading (.ldaAby w) 0xB9#8 s (aby w s) (4 + otherPage (aby w s) w.toNat),
   reading (.ldaIzx zp) 0xA1#8 s (izx zp s) 6,
   reading (.ldaIzy zp) 0xB1#8 s (izy zp s) (5 + otherPage (izy zp s) (pageZeroWord zp.toNat s))]

/-- The forms of LDX: opcodes, operands, cycles (R171). -/
def ldxForms (m zp : Byte) (w : Addr) (s : State) : List Reading :=
  [immediate (.ldxImm m) 0xA2#8 m s,
   reading (.ldxZp0 zp) 0xA6#8 s zp.toNat 3,
   reading (.ldxZpy zp) 0xB6#8 s (zpy zp s) 4,
   reading (.ldxAbs w) 0xAE#8 s w.toNat 4,
   reading (.ldxAby w) 0xBE#8 s (aby w s) (4 + otherPage (aby w s) w.toNat)]

/-- The forms of LDY: opcodes, operands, cycles (R172). -/
def ldyForms (m zp : Byte) (w : Addr) (s : State) : List Reading :=
  [immediate (.ldyImm m) 0xA0#8 m s,
   reading (.ldyZp0 zp) 0xA4#8 s zp.toNat 3,
   reading (.ldyZpx zp) 0xB4#8 s (zpx zp s) 4,
   reading (.ldyAbs w) 0xAC#8 s w.toNat 4,
   reading (.ldyAbx w) 0xBC#8 s (abx w s) (4 + otherPage (abx w s) w.toNat)]

/-- The forms of LAX: opcodes, operands, cycles (R320). -/
def laxForms (zp : Byte) (w : Addr) (s : State) : List Reading :=
  [reading (.laxZp0 zp) 0xA7#8 s zp.toNat 3,
   reading (.laxZpy zp) 0xB7#8 s (zpy zp s) 4,
   reading (.laxAbs w) 0xAF#8 s w.toNat 4,
   reading (.laxAby w) 0xBF#8 s (aby w s) (4 + otherPage (aby w s) w.toNat),
   reading (.laxIzx zp) 0xA3#8 s (izx zp s) 6,
   reading (.laxIzy zp) 0xB3#8 s (izy zp s) (5 + otherPage (izy zp s) (pageZeroWord zp.toNat s))]

/-- The forms of ADC: opcodes, operands, cycles (R200). -/
def adcForms (m zp : Byte) (w : Addr) (s : State) : List Reading :=
  [immediate (.adcImm m) 0x69#8 m s,
   reading (.adcZp0 zp) 0x65#8 s zp.toNat 3,
   reading (.adcZpx zp) 0x75#8 s (zpx zp s) 4,
   reading (.adcAbs w) 0x6D#8 s w.toNat 4,
   reading (.adcAbx w) 0x7D#8 s (abx w s) (4 + otherPage (abx w s) w.toNat),
   reading (.adcAby w) 0x79#8 s (aby w s) (4 + otherPage (aby w s) w.toNat),
   reading (.adcIzx zp) 0x61#8 s (izx zp s) 6,
   reading (.adcIzy zp) 0x71#8 s (izy zp s) (5 + otherPage (izy zp s) (pageZeroWord zp.toNat s))]

/-- The forms of SBC: opcodes, operands, cycles (R201, R331). -/
def sbcForms (m zp : Byte) (w : Addr) (s : State) : List Reading :=
  [immediate (.sbcImm m) 0xE9#8 m s,
   immediate (.sbcEB m) 0xEB#8 m s,
   reading (.sbcZp0 zp) 0xE5#8 s zp.toNat 3,
   reading (.sbcZpx zp) 0xF5#8 s (zpx zp s) 4,
   reading (.sbcAbs w) 0xED#8 s w.toNat 4,
   reading (.sbcAbx w) 0xFD#8 s (abx w s) (4 + otherPage (abx w s) w.toNat),
   reading (.sbcAby w) 0xF9#8 s (aby w s) (4 + otherPage (aby w s) w.toNat),
   reading (.sbcIzx zp) 0xE1#8 s (izx zp s) 6,
   reading (.sbcIzy zp) 0xF1#8 s (izy zp s) (5 + otherPage (izy zp s) (pageZeroWord zp.toNat s))]

/-- The forms of AND: opcodes, operands, cycles (R202). -/
def andForms (m zp : Byte) (w : Addr) (s : State) : List Reading :=
  [immediate (.andImm m) 0x29#8 m s,
   reading (.andZp0 zp) 0x25#8 s zp.toNat 3,
   reading (.andZpx zp) 0x35#8 s (zpx zp s) 4,
   reading (.andAbs w) 0x2D#8 s w.toNat 4,
   reading (.andAbx w) 0x3D#8 s (abx w s) (4 + otherPage (abx w s) w.toNat),
   reading (.andAby w) 0x39#8 s (aby w s) (4 + otherPage (aby w s) w.toNat),
   reading (.andIzx zp) 0x21#8 s (izx zp s) 6,
   reading (.andIzy zp) 0x31#8 s (izy zp s) (5 + otherPage (izy zp s) (pageZeroWord zp.toNat s))]

/-- The forms of ORA: opcodes, operands, cycles (R203). -/
def oraForms (m zp : Byte) (w : Addr) (s : State) : List Reading :=
  [immediate (.oraImm m) 0x09#8 m s,
   reading (.oraZp0 zp) 0x05#8 s zp.toNat 3,
   reading (.oraZpx zp) 0x15#8 s (zpx zp s) 4,
   reading (.oraAbs w) 0x0D#8 s w.toNat 4,
   reading (.oraAbx w) 0x1D#8 s (abx w s) (4 + otherPage (abx w s) w.toNat),
   reading (.oraAby w) 0x19#8 s (aby w s) (4 + otherPage (aby w s) w.toNat),
   reading (.oraIzx zp) 0x01#8 s (izx zp s) 6,
   reading (.oraIzy zp) 0x11#8 s (izy zp s) (5 + otherPage (izy zp s) (pageZeroWord zp.toNat s))]

/-- The forms of EOR: opcodes, operands, cycles (R204). -/
def eorForms (m zp : Byte) (w : Addr) (s : State) : List Reading :=
  [immediate (.eorImm m) 0x49#8 m s,
   reading (.eorZp0 zp) 0x45#8 s zp.toNat 3,
   reading (.eorZpx zp) 0x55#8 s (zpx zp s) 4,
   reading (.eorAbs w) 0x4D#8 s w.toNat 4,
   reading (.eorAbx w) 0x5D#8 s (abx w s) (4 + otherPage (abx w s) w.toNat),
   reading (.eorAby w) 0x59#8 s (aby w s) (4 + otherPage (aby w s) w.toNat),
   reading (.eorIzx zp) 0x41#8 s (izx zp s) 6,
   reading (.eorIzy zp) 0x51#8 s (izy zp s) (5 + otherPage (izy zp s) (pageZeroWord zp.toNat s))]

/-- The forms of CMP: opcodes, operands, cycles (R205). -/
def cmpForms (m zp : Byte) (w : Addr) (s : State) : List Reading :=
  [immediate (.cmpImm m) 0xC9#8 m s,
   reading (.cmpZp0 zp) 0xC5#8 s zp.toNat 3,
   reading (.cmpZpx zp) 0xD5#8 s (zpx zp s) 4,
   reading (.cmpAbs w) 0xCD#8 s w.toNat 4,
   reading (.cmpAbx w) 0xDD#8 s (abx w s) (4 + otherPage (abx w s) w.toNat),
   reading (.cmpAby w) 0xD9#8 s (aby w s) (4 + otherPage (aby w s) w.toNat),
   reading (.cmpIzx zp) 0xC1#8 s (izx zp s) 6,
   reading (.cmpIzy zp) 0xD1#8 s (izy zp s) (5 + otherPage (izy zp s) (pageZeroWord zp.toNat s))]

/-- The forms of CPX: opcodes, operands, cycles (R206). -/
def cpxForms (m zp : Byte) (w : Addr) (s : State) : List Reading :=
  [immediate (.cpxImm m) 0xE0#8 m s,
   reading (.cpxZp0 zp) 0xE4#8 s zp.toNat 3,
   reading (.cpxAbs w) 0xEC#8 s w.toNat 4]

/-- The forms of CPY: opcodes, operands, cycles (R207). -/
def cpyForms (m zp : Byte) (w : Addr) (s : State) : List Reading :=
  [immediate (.cpyImm m) 0xC0#8 m s,
   reading (.cpyZp0 zp) 0xC4#8 s zp.toNat 3,
   reading (.cpyAbs w) 0xCC#8 s w.toNat 4]

/-- The forms of BIT: opcodes, operands, cycles (R208). -/
def bitForms (zp : Byte) (w : Addr) (s : State) : List Reading :=
  [reading (.bitZp0 zp) 0x24#8 s zp.toNat 3,
   reading (.bitAbs w) 0x2C#8 s w.toNat 4]

/-- The forms of STA that store: opcodes, addresses stored to, cycles (R173). -/
def staForms (zp : Byte) (w : Addr) (s : State) : List Storing :=
  [⟨.staZp0 zp, 0x85#8, zp.toNat, 3⟩,
   ⟨.staZpx zp, 0x95#8, zpx zp s, 4⟩,
   ⟨.staAbs w, 0x8D#8, w.toNat, 4⟩,
   ⟨.staAbx w, 0x9D#8, abx w s, 5⟩,
   ⟨.staAby w, 0x99#8, aby w s, 5⟩,
   ⟨.staIzx zp, 0x81#8, izx zp s, 6⟩,
   ⟨.staIzy zp, 0x91#8, izy zp s, 6⟩]

/-- The forms of STX that store: opcodes, addresses stored to, cycles (R174). -/
def stxForms (zp : Byte) (w : Addr) (s : State) : List Storing :=
  [⟨.stxZp0 zp, 0x86#8, zp.toNat, 3⟩,
   ⟨.stxZpy zp, 0x96#8, zpy zp s, 4⟩,
   ⟨.stxAbs w, 0x8E#8, w.toNat, 4⟩]

/-- The forms of STY that store: opcodes, addresses stored to, cycles (R175). -/
def styForms (zp : Byte) (w : Addr) (s : State) : List Storing :=
  [⟨.styZp0 zp, 0x84#8, zp.toNat, 3⟩,
   ⟨.styZpx zp, 0x94#8, zpx zp s, 4⟩,
   ⟨.styAbs w, 0x8C#8, w.toNat, 4⟩]

/-- The forms of SAX that store: opcodes, addresses stored to, cycles (R321). -/
def saxForms (zp : Byte) (w : Addr) (s : State) : List Storing :=
  [⟨.saxZp0 zp, 0x87#8, zp.toNat, 3⟩,
   ⟨.saxZpy zp, 0x97#8, zpy zp s, 4⟩,
   ⟨.saxAbs w, 0x8F#8, w.toNat, 4⟩,
   ⟨.saxIzx zp, 0x83#8, izx zp s, 6⟩]

/-- The forms of INC that store: opcodes, addresses stored to, cycles (R209). -/
def incForms (zp : Byte) (w : Addr) (s : State) : List Storing :=
  [⟨.incZp0 zp, 0xE6#8, zp.toNat, 5⟩,
   ⟨.incZpx zp, 0xF6#8, zpx zp s, 6⟩,
   ⟨.incAbs w, 0xEE#8, w.toNat, 6⟩,
   ⟨.incAbx w, 0xFE#8, abx w s, 7⟩]

/-- The forms of DEC that store: opcodes, addresses stored to, cycles (R210). -/
def decForms (zp : Byte) (w : Addr) (s : State) : List Storing :=
  [⟨.decZp0 zp, 0xC6#8, zp.toNat, 5⟩,
   ⟨.decZpx zp, 0xD6#8, zpx zp s, 6⟩,
   ⟨.decAbs w, 0xCE#8, w.toNat, 6⟩,
   ⟨.decAbx w, 0xDE#8, abx w s, 7⟩]

/-- The forms of ASL that store: opcodes, addresses stored to, cycles (R240). -/
def aslForms (zp : Byte) (w : Addr) (s : State) : List Storing :=
  [⟨.aslZp0 zp, 0x06#8, zp.toNat, 5⟩,
   ⟨.aslZpx zp, 0x16#8, zpx zp s, 6⟩,
   ⟨.aslAbs w, 0x0E#8, w.toNat, 6⟩,
   ⟨.aslAbx w, 0x1E#8, abx w s, 7⟩]

/-- The forms of LSR that store: opcodes, addresses stored to, cycles (R241). -/
def lsrForms (zp : Byte) (w : Addr) (s : State) : List Storing :=
  [⟨.lsrZp0 zp, 0x46#8, zp.toNat, 5⟩,
   ⟨.lsrZpx zp, 0x56#8, zpx zp s, 6⟩,
   ⟨.lsrAbs w, 0x4E#8, w.toNat, 6⟩,
   ⟨.lsrAbx w, 0x5E#8, abx w s, 7⟩]

/-- The forms of ROL that store: opcodes, addresses stored to, cycles (R242). -/
def rolForms (zp : Byte) (w : Addr) (s : State) : List Storing :=
  [⟨.rolZp0 zp, 0x26#8, zp.toNat, 5⟩,
   ⟨.rolZpx zp, 0x36#8, zpx zp s, 6⟩,
   ⟨.rolAbs w, 0x2E#8, w.toNat, 6⟩,
   ⟨.rolAbx w, 0x3E#8, abx w s, 7⟩]

/-- The forms of ROR that store: opcodes, addresses stored to, cycles (R243). -/
def rorForms (zp : Byte) (w : Addr) (s : State) : List Storing :=
  [⟨.rorZp0 zp, 0x66#8, zp.toNat, 5⟩,
   ⟨.rorZpx zp, 0x76#8, zpx zp s, 6⟩,
   ⟨.rorAbs w, 0x6E#8, w.toNat, 6⟩,
   ⟨.rorAbx w, 0x7E#8, abx w s, 7⟩]

/-- The forms of DCP that store: opcodes, addresses stored to, cycles (R322). -/
def dcpForms (zp : Byte) (w : Addr) (s : State) : List Storing :=
  [⟨.dcpZp0 zp, 0xC7#8, zp.toNat, 5⟩,
   ⟨.dcpZpx zp, 0xD7#8, zpx zp s, 6⟩,
   ⟨.dcpAbs w, 0xCF#8, w.toNat, 6⟩,
   ⟨.dcpAbx w, 0xDF#8, abx w s, 7⟩,
   ⟨.dcpAby w, 0xDB#8, aby w s, 7⟩,
   ⟨.dcpIzx zp, 0xC3#8, izx zp s, 8⟩,
   ⟨.dcpIzy zp, 0xD3#8, izy zp s, 8⟩]

/-- The forms of ISC that store: opcodes, addresses stored to, cycles (R323). -/
def iscForms (zp : Byte) (w : Addr) (s : State) : List Storing :=
  [⟨.iscZp0 zp, 0xE7#8, zp.toNat, 5⟩,
   ⟨.iscZpx zp, 0xF7#8, zpx zp s, 6⟩,
   ⟨.iscAbs w, 0xEF#8, w.toNat, 6⟩,
   ⟨.iscAbx w, 0xFF#8, abx w s, 7⟩,
   ⟨.iscAby w, 0xFB#8, aby w s, 7⟩,
   ⟨.iscIzx zp, 0xE3#8, izx zp s, 8⟩,
   ⟨.iscIzy zp, 0xF3#8, izy zp s, 8⟩]

/-- The forms of SLO that store: opcodes, addresses stored to, cycles (R324). -/
def sloForms (zp : Byte) (w : Addr) (s : State) : List Storing :=
  [⟨.sloZp0 zp, 0x07#8, zp.toNat, 5⟩,
   ⟨.sloZpx zp, 0x17#8, zpx zp s, 6⟩,
   ⟨.sloAbs w, 0x0F#8, w.toNat, 6⟩,
   ⟨.sloAbx w, 0x1F#8, abx w s, 7⟩,
   ⟨.sloAby w, 0x1B#8, aby w s, 7⟩,
   ⟨.sloIzx zp, 0x03#8, izx zp s, 8⟩,
   ⟨.sloIzy zp, 0x13#8, izy zp s, 8⟩]

/-- The forms of RLA that store: opcodes, addresses stored to, cycles (R325). -/
def rlaForms (zp : Byte) (w : Addr) (s : State) : List Storing :=
  [⟨.rlaZp0 zp, 0x27#8, zp.toNat, 5⟩,
   ⟨.rlaZpx zp, 0x37#8, zpx zp s, 6⟩,
   ⟨.rlaAbs w, 0x2F#8, w.toNat, 6⟩,
   ⟨.rlaAbx w, 0x3F#8, abx w s, 7⟩,
   ⟨.rlaAby w, 0x3B#8, aby w s, 7⟩,
   ⟨.rlaIzx zp, 0x23#8, izx zp s, 8⟩,
   ⟨.rlaIzy zp, 0x33#8, izy zp s, 8⟩]

/-- The forms of SRE that store: opcodes, addresses stored to, cycles (R326). -/
def sreForms (zp : Byte) (w : Addr) (s : State) : List Storing :=
  [⟨.sreZp0 zp, 0x47#8, zp.toNat, 5⟩,
   ⟨.sreZpx zp, 0x57#8, zpx zp s, 6⟩,
   ⟨.sreAbs w, 0x4F#8, w.toNat, 6⟩,
   ⟨.sreAbx w, 0x5F#8, abx w s, 7⟩,
   ⟨.sreAby w, 0x5B#8, aby w s, 7⟩,
   ⟨.sreIzx zp, 0x43#8, izx zp s, 8⟩,
   ⟨.sreIzy zp, 0x53#8, izy zp s, 8⟩]

/-- The forms of RRA that store: opcodes, addresses stored to, cycles (R327). -/
def rraForms (zp : Byte) (w : Addr) (s : State) : List Storing :=
  [⟨.rraZp0 zp, 0x67#8, zp.toNat, 5⟩,
   ⟨.rraZpx zp, 0x77#8, zpx zp s, 6⟩,
   ⟨.rraAbs w, 0x6F#8, w.toNat, 6⟩,
   ⟨.rraAbx w, 0x7F#8, abx w s, 7⟩,
   ⟨.rraAby w, 0x7B#8, aby w s, 7⟩,
   ⟨.rraIzx zp, 0x63#8, izx zp s, 8⟩,
   ⟨.rraIzy zp, 0x73#8, izy zp s, 8⟩]

/-! ### Arithmetic of the rules, on numbers -/

/-- The byte `AddWithCarry` leaves (`42` R216). -/
def adcByte (a m : Byte) (c : Nat) : Byte := BitVec.ofNat 8 (a.toNat + m.toNat + c)

/-- The carry out of bit 7 (R216). -/
def adcCarry (a m : Byte) (c : Nat) : Bool := decide (256 ≤ a.toNat + m.toNat + c)

/-- Signed overflow of the addition: the signed sum is no 8-bit number (R200, R216). -/
def adcOver (a m : Byte) (c : Nat) : Bool :=
  decide (a.toInt + m.toInt + c < -128 ∨ 127 < a.toInt + m.toInt + c)

/-- The byte a subtraction leaves: `A − m − (1 − C)` modulo 256 (`42` R201). -/
def sbcByte (a m : Byte) (c : Nat) : Byte :=
  BitVec.ofInt 8 ((a.toNat : Int) - m.toNat - (1 - (c : Int)))

/-- No borrow: `A ≥ m + (1 − C)` as unsigned numbers (R201). -/
def sbcCarry (a m : Byte) (c : Nat) : Bool := decide (m.toNat + (1 - c) ≤ a.toNat)

/-- Signed overflow of the subtraction (R201). -/
def sbcOver (a m : Byte) (c : Nat) : Bool :=
  decide (a.toInt - m.toInt - (1 - (c : Int)) < -128 ∨ 127 < a.toInt - m.toInt - (1 - (c : Int)))

/-- The status after `Compare(r, m)` (`42` R215). -/
def flagsCompare (s : State) (r m : Byte) : Byte :=
  flagsCZN s (decide (m.toNat ≤ r.toNat)) (BitVec.ofNat 8 (r.toNat + 256 - m.toNat))

/-- A byte shifted left with a bit coming in (`43` R240, R242). -/
def shiftLeft (m : Byte) (c : Nat) : Byte := BitVec.ofNat 8 (2 * m.toNat + c)

/-- A byte shifted right with a bit coming in (`43` R241, R243). -/
def shiftRight (m : Byte) (c : Nat) : Byte := BitVec.ofNat 8 (m.toNat / 2 + 128 * c)

/-- The bit a left shift sends to carry. -/
def outLeft (m : Byte) : Bool := decide (128 ≤ m.toNat)

/-- The bit a right shift sends to carry. -/
def outRight (m : Byte) : Bool := decide (m.toNat % 2 = 1)

/-- The stack byte that lies `k` places above the pointer, inside the stack page (`40` R138, `20`
R74). -/
def stackKey (s : State) (k : Nat) : Nat := 256 + (s.sp.toNat + k) % 256

/-- RAM after three pushes: high byte, low byte, status (`20` R73). -/
def pushed3 (s : State) (w : Addr) (status : Byte) : Memory :=
  Memory.write (Memory.write (Memory.write s.ram (stackKey s 0) (BitVec.ofNat 8 (w.toNat / 256)))
    (stackKey s 255) (BitVec.ofNat 8 (w.toNat % 256))) (stackKey s 254) status

/-- The little-endian word at a vector, as the cartridge shows it (`20` R71, R72). -/
def vector (s : State) (n : Nat) : Addr :=
  word ((busValue s (word n)).toNat + 256 * (busValue s (word (n + 1))).toNat)

/-! ### Branches, no-ops, fusions -/

/-- The branches, their opcodes and conditions (`44` R261 to R268). -/
def branches (rel : Byte) (s : State) : List (Instr × Byte × Bool) :=
  [(.bcc rel, 0x90#8, !s.flag .c), (.bcs rel, 0xB0#8, s.flag .c),
   (.beq rel, 0xF0#8, s.flag .z), (.bne rel, 0xD0#8, !s.flag .z),
   (.bmi rel, 0x30#8, s.flag .n), (.bpl rel, 0x10#8, !s.flag .n),
   (.bvc rel, 0x50#8, !s.flag .v), (.bvs rel, 0x70#8, s.flag .v)]

/-- The no-ops, their opcodes and cycles (`45` R301, `46` R330). -/
def noOps (m zp : Byte) (w : Addr) (s : State) : List (Instr × Byte × Nat) :=
  [(.nop, 0xEA#8, 2), (.nop1A, 0x1A#8, 2), (.nop3A, 0x3A#8, 2), (.nop5A, 0x5A#8, 2),
   (.nop7A, 0x7A#8, 2), (.nopDA, 0xDA#8, 2), (.nopFA, 0xFA#8, 2),
   (.nop80 m, 0x80#8, 2), (.nop82 m, 0x82#8, 2), (.nop89 m, 0x89#8, 2), (.nopC2 m, 0xC2#8, 2),
   (.nopE2 m, 0xE2#8, 2),
   (.nop04 zp, 0x04#8, 3), (.nop44 zp, 0x44#8, 3), (.nop64 zp, 0x64#8, 3),
   (.nop14 zp, 0x14#8, 4), (.nop34 zp, 0x34#8, 4), (.nop54 zp, 0x54#8, 4), (.nop74 zp, 0x74#8, 4),
   (.nopD4 zp, 0xD4#8, 4), (.nopF4 zp, 0xF4#8, 4),
   (.nop0C w, 0x0C#8, 4),
   (.nop1C w, 0x1C#8, 4 + otherPage (abx w s) w.toNat),
   (.nop3C w, 0x3C#8, 4 + otherPage (abx w s) w.toNat),
   (.nop5C w, 0x5C#8, 4 + otherPage (abx w s) w.toNat),
   (.nop7C w, 0x7C#8, 4 + otherPage (abx w s) w.toNat),
   (.nopDC w, 0xDC#8, 4 + otherPage (abx w s) w.toNat),
   (.nopFC w, 0xFC#8, 4 + otherPage (abx w s) w.toNat)]

/-- A fused instruction: the memory instruction it begins with, the accumulator instruction it ends with,
the address, its cycles. -/
structure Fusion where
  fused  : Instr
  first  : Instr
  second : Byte → Instr
  ea     : Nat
  cycles : Nat

/-- The fused instructions in the modes that both parts have (`46` R322 to R327). -/
def fusions (zp : Byte) (w : Addr) (s : State) : List Fusion :=
  [⟨.sloZp0 zp, .aslZp0 zp, .oraImm, zp.toNat, 5⟩, ⟨.sloZpx zp, .aslZpx zp, .oraImm, zpx zp s, 6⟩,
   ⟨.sloAbs w, .aslAbs w, .oraImm, w.toNat, 6⟩, ⟨.sloAbx w, .aslAbx w, .oraImm, abx w s, 7⟩,
   ⟨.rlaZp0 zp, .rolZp0 zp, .andImm, zp.toNat, 5⟩, ⟨.rlaZpx zp, .rolZpx zp, .andImm, zpx zp s, 6⟩,
   ⟨.rlaAbs w, .rolAbs w, .andImm, w.toNat, 6⟩, ⟨.rlaAbx w, .rolAbx w, .andImm, abx w s, 7⟩,
   ⟨.sreZp0 zp, .lsrZp0 zp, .eorImm, zp.toNat, 5⟩, ⟨.sreZpx zp, .lsrZpx zp, .eorImm, zpx zp s, 6⟩,
   ⟨.sreAbs w, .lsrAbs w, .eorImm, w.toNat, 6⟩, ⟨.sreAbx w, .lsrAbx w, .eorImm, abx w s, 7⟩,
   ⟨.rraZp0 zp, .rorZp0 zp, .adcImm, zp.toNat, 5⟩, ⟨.rraZpx zp, .rorZpx zp, .adcImm, zpx zp s, 6⟩,
   ⟨.rraAbs w, .rorAbs w, .adcImm, w.toNat, 6⟩, ⟨.rraAbx w, .rorAbx w, .adcImm, abx w s, 7⟩,
   ⟨.dcpZp0 zp, .decZp0 zp, .cmpImm, zp.toNat, 5⟩, ⟨.dcpZpx zp, .decZpx zp, .cmpImm, zpx zp s, 6⟩,
   ⟨.dcpAbs w, .decAbs w, .cmpImm, w.toNat, 6⟩, ⟨.dcpAbx w, .decAbx w, .cmpImm, abx w s, 7⟩,
   ⟨.iscZp0 zp, .incZp0 zp, .sbcImm, zp.toNat, 5⟩, ⟨.iscZpx zp, .incZpx zp, .sbcImm, zpx zp s, 6⟩,
   ⟨.iscAbs w, .incAbs w, .sbcImm, w.toNat, 6⟩, ⟨.iscAbx w, .incAbx w, .sbcImm, abx w s, 7⟩]

/-- Every form that reads one operand. -/
def readingForms (m zp : Byte) (w : Addr) (s : State) : List Reading :=
  ldaForms m zp w s ++ ldxForms m zp w s ++ ldyForms m zp w s ++ laxForms zp w s ++ adcForms m zp w s
    ++ sbcForms m zp w s ++ andForms m zp w s ++ oraForms m zp w s ++ eorForms m zp w s
    ++ cmpForms m zp w s ++ cpxForms m zp w s ++ cpyForms m zp w s ++ bitForms zp w s

/-- Every form that stores at an effective address. -/
def storingForms (zp : Byte) (w : Addr) (s : State) : List Storing :=
  staForms zp w s ++ stxForms zp w s ++ styForms zp w s ++ saxForms zp w s ++ incForms zp w s
    ++ decForms zp w s ++ aslForms zp w s ++ lsrForms zp w s ++ rolForms zp w s ++ rorForms zp w s
    ++ dcpForms zp w s ++ iscForms zp w s ++ sloForms zp w s ++ rlaForms zp w s ++ sreForms zp w s
    ++ rraForms zp w s

/-- The instructions without a meaning in the spec (`46` R332, R333). -/
def jams : Instr → Bool
  | .stp _ | .rsvImm _ _ | .rsvIzy _ | .rsvAby _ _ | .rsvAbx _ => true
  | _ => false

/-! ### The whole machine -/

/-- An address whose reads have no side effect and return memory: RAM or program memory. -/
def plain (a : Addr) : Prop := a.toNat < 0x2000 ∨ 0x8000 ≤ a.toNat

/-- The background registers at the pixel of a visible position: the fetch step of that clock comes before
the pixel, and cycle 1 has none (`63` R561, R570). -/
def atPixel (c : Cartridge) (p : Ppu) : Ppu := if 2 ≤ p.cycle then bgStep c p.cycle p else p

/-- The background fetches run on this clock (`63` R561, R570). -/
def fetching (p : Ppu) : Prop :=
  -1 ≤ p.scanline ∧ p.scanline ≤ 239 ∧ (2 ≤ p.cycle ∧ p.cycle ≤ 257 ∨ 321 ≤ p.cycle ∧ p.cycle ≤ 337)

/-- A clock at a visible position (`63` R561, R612). -/
def visible (p : Ppu) : Prop := 0 ≤ p.scanline ∧ p.scanline ≤ 239 ∧ 1 ≤ p.cycle ∧ p.cycle ≤ 256

/-- Byte `j` of object `i` (`62` R535). -/
def objectByte (p : Ppu) (i : Fin 64) (j : Nat) : Byte := Memory.read p.oam (4 * i.val + j)

/-- The sprite height (`63` R595). -/
def height (p : Ppu) : Nat := if p.ctrl.toNat / 32 % 2 = 1 then 16 else 8

/-- The two bits object `i` shows at a column of a scanline, 0 outside its 8 columns and its rows; the
horizontal flip is attribute bit 6 (`63` R600; the column is decision D55, the rows D57 and D58). -/
def objectBits (c : Cartridge) (p : Ppu) (s : Int) (col : Nat) (i : Fin 64) : Nat :=
  let y := (objectByte p i 0).toNat
  let x := (objectByte p i 3).toNat
  let attr := objectByte p i 2
  if x ≤ col ∧ col ≤ x + 7 ∧ (y : Int) + 1 ≤ s ∧ s ≤ y + height p then
    let a := spritePatternAddr p (objectByte p i 1) attr (s - 1 - y).toNat
    let b := if attr.toNat / 64 % 2 = 1 then col - x else 7 - (col - x)
    (ppuRead c p (a + 8)).toNat / 2 ^ b % 2 * 2 + (ppuRead c p a).toNat / 2 ^ b % 2
  else 0

/-- `n` consecutive DMA slots, the first at master tick `m`, processor slots being 3 ticks apart (`61`
R472, R477). -/
def dmaSlots : Nat → Nat → State → State
  | 0, _, s => s
  | n + 1, m, s => dmaSlots n (m + 3) (dmaStep m s)

/-- `n` consecutive clocks of the picture processor. -/
def ppuClocks (c : Cartridge) : Nat → Ppu → Ppu
  | 0, p => p
  | n + 1, p => ppuClocks c n (ppuClock c p)

/-- The position of the picture processor as one number, 0 to 89341, counted from the pre-render
scanline's cycle 0 (`63` R560). -/
def position (p : Ppu) : Int := (p.scanline + 1) * 341 + p.cycle

/-- Two nametable addresses name the same byte (`62` R533). -/
def sameNametable (m : Mirroring) (a b : Nat) : Prop :=
  a % 1024 = b % 1024 ∧
    match m with
    | .vertical => a / 1024 % 2 = b / 1024 % 2
    | .horizontal => a / 2048 % 2 = b / 2048 % 2

/-- The palette entry of an address (`62` R534). -/
def paletteEntry (a : Nat) : Nat :=
  if a % 32 ≥ 16 ∧ a % 4 = 0 then a % 32 - 16 else a % 32

/-- Two PPU addresses name the same byte (`62` R529, R533, R534). -/
def samePpuByte (m : Mirroring) (a b : Nat) : Prop :=
  if a < 0x2000 ∨ b < 0x2000 then a = b
  else if a < 0x3F00 ∧ b < 0x3F00 then sameNametable m a b
  else 0x3F00 ≤ a ∧ 0x3F00 ≤ b ∧ paletteEntry a = paletteEntry b

/-- The index into program memory of an address at or above 0x8000, as a number (`61` R460, R462, R463,
R466). -/
def programIndex (c : Cartridge) (a : Nat) : Nat :=
  (match c.mapper with
    | .fixed => if c.prgBanks = 1 then a % 16384 else a % 32768
    | .switchable bank =>
      if a < 0xC000 then bank.toNat * 16384 + a % 16384 else (c.prgBanks - 1) * 16384 + a % 16384)
    % (c.prgBanks * 16384)

end Sys2Proof.Rule

open Sys2Proof Sys2Proof.Machine Sys2Proof.Rule

/-! ## Encoding and fetching -/

/-- Decoding an encoded well-formed instruction gives it back with the rest of the bytes (`30` R100, R101,
R102, R110). -/
def Obligations.DecodeOfEncode : Prop :=
  ∀ (i : Instr) (rest : List Byte), i.wellFormed = true → decode (encode i ++ rest) = .ok (i, rest)

/-- Every sequence of at least three bytes begins with an instruction, which is well-formed, 1 to 3 bytes
long, and encodes back to the bytes it was read from: no opcode is refused (`30` R100, R102, R104). -/
def Obligations.EveryBytesDecode : Prop :=
  ∀ bs : List Byte, 3 ≤ bs.length →
    ∃ i rest, decode bs = .ok (i, rest) ∧ i.wellFormed = true ∧ encode i ++ rest = bs
      ∧ 1 ≤ (encode i).length ∧ (encode i).length ≤ 3

/-- Words written out from the opcode table and the formats, one per format (`30` R101, R110). -/
def Obligations.DecodedWords : Prop :=
  decode [0x00#8] = .ok (.brk, []) ∧ decode [0x0A#8] = .ok (.aslAcc, [])
    ∧ decode [0xA9#8, 0x80#8] = .ok (.ldaImm 0x80#8, [])
    ∧ decode [0x85#8, 0x10#8] = .ok (.staZp0 0x10#8, [])
    ∧ decode [0xB5#8, 0xF0#8] = .ok (.ldaZpx 0xF0#8, [])
    ∧ decode [0xB6#8, 0xFF#8] = .ok (.ldxZpy 0xFF#8, [])
    ∧ decode [0xD0#8, 0xFB#8] = .ok (.bne 0xFB#8, [])
    ∧ decode [0x4C#8, 0x34#8, 0x12#8] = .ok (.jmpAbs 0x1234#16, [])
    ∧ decode [0xFE#8, 0xF0#8, 0x12#8] = .ok (.incAbx 0x12F0#16, [])
    ∧ decode [0x99#8, 0x00#8, 0x02#8] = .ok (.staAby 0x0200#16, [])
    ∧ decode [0x6C#8, 0xFF#8, 0x02#8] = .ok (.jmpInd 0x02FF#16, [])
    ∧ decode [0xA1#8, 0xFE#8] = .ok (.ldaIzx 0xFE#8, [])
    ∧ decode [0xB1#8, 0x10#8] = .ok (.ldaIzy 0x10#8, [])
    ∧ decode [0x47#8, 0x10#8] = .ok (.sreZp0 0x10#8, [])
    ∧ decode [0x02#8] = .ok (.stp 0x02#8, []) ∧ decode [0xAB#8, 0x00#8] = .ok (.rsvImm 0xAB#8 0x00#8, [])

/-- Fetching reads the opcode at `PC`, decodes the instruction that begins with it, and moves `PC` past
all its bytes, modulo 65536; no register, no flag, no byte of RAM or of the cartridge changes (`10` R22,
`40` R130, R131, `20` R75). -/
def Obligations.FetchMovesPastTheInstruction : Prop :=
  ∀ s : State,
    (encode (fetch s).1).head? = some (busValue s s.pc) ∧ (fetch s).1.wellFormed = true
      ∧ (fetch s).2.pc = word (s.pc.toNat + (encode (fetch s).1).length)
      ∧ (fetch s).2.a = s.a ∧ (fetch s).2.x = s.x ∧ (fetch s).2.y = s.y ∧ (fetch s).2.sp = s.sp
      ∧ (fetch s).2.p = s.p ∧ (fetch s).2.cycles = s.cycles ∧ (fetch s).2.ram = s.ram
      ∧ (fetch s).2.cart = s.cart ∧ (fetch s).2.dma = s.dma

/-- A step at a processor slot with no cycle left, no transfer, no request and no NMI runs the instruction
whose bytes lie at `PC` in RAM or program memory: the picture processor is clocked first, `PC` is moved
past the instruction, `exec` gives the effect, and what is left is the decrement of the cycles, the master
counter and the request list (`40` R130, R131, R135, `64` R631). The bytes lie where a read has no side
effect; fetching from a device is `FetchMovesPastTheInstruction`. That the slot is master mod 3 = 0 is the
spec's decision D20; that a CPU which Jams keeps its cycles is the model's log 5, the request list its log
9. -/
def Obligations.StepRunsTheDecodedInstruction : Prop :=
  ∀ (s : State) (i : Instr) (rest : List Byte),
    s.master % 3 = 0 → s.dma.active = false → s.jammed = false → s.cycles = 0 → s.quiet →
    decode [busValue s s.pc, busValue s (s.pc + 1), busValue s (s.pc + 2)] = .ok (i, rest) →
    (∀ k, k < (encode i).length → plain (s.pc + word k)) →
    step s =
      andThen (exec i ((ppuTick s).setPc (s.pc + word (encode i).length))) (fun t =>
        .next { t with cycles := if t.jammed then t.cycles else t.cycles - 1,
                       master := s.master + 1, requests := s.requests.tail })

/-! ## Every instruction -/

/-- Every instruction completes from every state. One that does not Jam takes 2 to 8 cycles, leaves the
always-set flag 1 and leaves break as it was unless it pulls the status, which leaves break 0 (`10` R24,
R25, R26; `40` R133, R134). That STP and the RESERVED opcodes complete, in the stuck state, is the model's
choice, log 5: R332 and R333 assign them no next state. -/
def Obligations.EveryInstructionCompletes : Prop :=
  ∀ (i : Instr) (s : State), ∃ t, exec i s = .next t ∧
    (jams i = false → 2 ≤ t.cycles ∧ t.cycles ≤ 8 ∧ t.flag .u = true ∧ t.jammed = s.jammed
      ∧ t.flag .b = if i = .plp ∨ i = .rti then false else s.flag .b)


/-- STP and the RESERVED opcodes leave the machine stuck, nothing else changed; the clock of a stuck CPU
does nothing, and a reset leaves the stuck state. The spec allows this representation and assigns no next
state itself (`46` R332, R333, decisions D14 and D15; log 5; a delivered interrupt also leaves it, log 6,
`InterruptPriority`). -/
def Obligations.JamIsAStuckState : Prop :=
  ∀ (i : Instr) (s : State), jams i = true →
    exec i s = .next { s with jammed := true } ∧ clock { s with jammed := true } = .next { s with jammed := true }
      ∧ (systemReset { s with jammed := true }).jammed = false

/-- The decimal flag has no effect on any instruction: two states that differ in it alone differ, after
any instruction, in at most the decimal flag and the status byte that PHP and BRK push (`42` R217,
decision D11). -/
def Obligations.DecimalFlagHasNoEffect : Prop :=
  ∀ (i : Instr) (s : State) (b : Bool), ∃ t u,
    exec i s = .next t ∧ exec i (s.setFlagTo .d b) = .next u
      ∧ u.a = t.a ∧ u.x = t.x ∧ u.y = t.y ∧ u.sp = t.sp ∧ u.pc = t.pc ∧ u.cycles = t.cycles
      ∧ u.jammed = t.jammed ∧ u.draws = t.draws ∧ u.master = t.master ∧ u.requests = t.requests
      ∧ (∀ f, f ≠ .d → u.flag f = t.flag f) ∧ u.ppu = t.ppu ∧ u.cart = t.cart ∧ u.dma = t.dma
      ∧ (i ≠ .php → i ≠ .brk → u.ram = t.ram)
      ∧ ∀ k, ¬ (i = .php ∧ k = stackKey s 0) → ¬ (i = .brk ∧ k = stackKey s 254) →
        Memory.read u.ram k = Memory.read t.ram k


/-! ## Loads, stores, transfers -/

/-- LDA, LDX, LDY and LAX, every form: the register takes the operand (LAX: A and X take the one operand
read), Z and N follow it, the cycles are the rule's; nothing else changes but what the bus read itself does
(`41` R170, R171, R172; `46` R320). -/
def Obligations.LoadsTakeTheOperand : Prop :=
  ∀ (s : State) (m zp : Byte) (w : Addr),
    (∀ f ∈ ldaForms m zp w s, (encode f.instr).head? = some f.opcode ∧
      exec f.instr s =
        .next { f.after with a := f.operand, p := flagsZN s f.operand, cycles := f.cycles })
    ∧ (∀ f ∈ ldxForms m zp w s, (encode f.instr).head? = some f.opcode ∧
      exec f.instr s =
        .next { f.after with x := f.operand, p := flagsZN s f.operand, cycles := f.cycles })
    ∧ (∀ f ∈ ldyForms m zp w s, (encode f.instr).head? = some f.opcode ∧
      exec f.instr s =
        .next { f.after with y := f.operand, p := flagsZN s f.operand, cycles := f.cycles })
    ∧ (∀ f ∈ laxForms zp w s, (encode f.instr).head? = some f.opcode ∧
      exec f.instr s =
        .next { f.after with
          a := f.operand, x := f.operand, p := flagsZN s f.operand, cycles := f.cycles })
/-- STA, STX, STY and SAX, every form: one bus write of the value at the effective address and no read;
no flag and no register changes, and no form pays an extra cycle (`41` R173, R174, R175; `46` R321). -/
def Obligations.StoresWriteOnce : Prop :=
  ∀ (s : State) (zp : Byte) (w : Addr),
    (∀ f ∈ staForms zp w s, (encode f.instr).head? = some f.opcode ∧
      exec f.instr s =
        .next { memWrite s (word f.ea) s.a with p := sameFlags s, cycles := f.cycles })
    ∧ (∀ f ∈ stxForms zp w s, (encode f.instr).head? = some f.opcode ∧
      exec f.instr s =
        .next { memWrite s (word f.ea) s.x with p := sameFlags s, cycles := f.cycles })
    ∧ (∀ f ∈ styForms zp w s, (encode f.instr).head? = some f.opcode ∧
      exec f.instr s =
        .next { memWrite s (word f.ea) s.y with p := sameFlags s, cycles := f.cycles })
    ∧ (∀ f ∈ saxForms zp w s, (encode f.instr).head? = some f.opcode ∧
      exec f.instr s =
        .next { memWrite s (word f.ea) (s.a &&& s.x) with p := sameFlags s, cycles := f.cycles })

/-- What a storing form leaves unchanged: every byte of RAM that is no mirror of the address stored to,
all of program memory always; the bank register unless the address is 0x8000 or above; object memory,
nametables, palette and pattern memory unless the address is a picture-processor register (`20` R63, R65;
`61` R461). -/
def Obligations.StoresLeaveOtherBytes : Prop :=
  ∀ (s t : State) (zp : Byte) (w : Addr), ∀ f ∈ storingForms zp w s, exec f.instr s = .next t →
    (∀ b : Addr, b.toNat < 0x2000 → ¬ (f.ea < 0x2000 ∧ f.ea % 2048 = b.toNat % 2048) →
      busValue t b = busValue s b)
    ∧ t.cart.prg = s.cart.prg ∧ (f.ea < 0x8000 → t.cart.mapper = s.cart.mapper)
    ∧ (f.ea < 0x2000 ∨ 0x4000 ≤ f.ea →
      t.ppu.oam = s.ppu.oam ∧ t.ppu.nt0 = s.ppu.nt0 ∧ t.ppu.nt1 = s.ppu.nt1 ∧ t.ppu.pal = s.ppu.pal
        ∧ t.cart.chr = s.cart.chr)
    ∧ t.sp = s.sp ∧ t.pc = s.pc ∧ t.x = s.x ∧ t.y = s.y

/-- A form that reads its operand stores nothing: every byte of RAM, of the cartridge, of object memory,
of the nametables and of the palette reads as before (`20` R76; `40` R153). -/
def Obligations.ReadsStoreNothing : Prop :=
  ∀ (s t : State) (m zp : Byte) (w : Addr), ∀ f ∈ readingForms m zp w s, exec f.instr s = .next t →
    (∀ b : Addr, plain b → busValue t b = busValue s b) ∧ t.ram = s.ram ∧ t.cart = s.cart
      ∧ t.dma = s.dma ∧ t.ppu.oam = s.ppu.oam ∧ t.ppu.nt0 = s.ppu.nt0 ∧ t.ppu.nt1 = s.ppu.nt1
      ∧ t.ppu.pal = s.ppu.pal ∧ t.sp = s.sp ∧ t.pc = s.pc

/-- The six transfers and INX, INY, DEX, DEY: 2 cycles, Z and N from the value written, but no flag for
TXS; the counts are modulo 256 and leave C and V (`41` R176 to R181; `42` R211 to R214). -/
def Obligations.RegisterInstructions : Prop :=
  ∀ s : State,
    exec .tax s = .next { s with x := s.a, p := flagsZN s s.a, cycles := 2 }
    ∧ exec .tay s = .next { s with y := s.a, p := flagsZN s s.a, cycles := 2 }
    ∧ exec .txa s = .next { s with a := s.x, p := flagsZN s s.x, cycles := 2 }
    ∧ exec .tya s = .next { s with a := s.y, p := flagsZN s s.y, cycles := 2 }
    ∧ exec .tsx s = .next { s with x := s.sp, p := flagsZN s s.sp, cycles := 2 }
    ∧ exec .txs s = .next { s with sp := s.x, p := sameFlags s, cycles := 2 }
    ∧ (let v := BitVec.ofNat 8 (s.x.toNat + 1)
       exec .inx s = .next { s with x := v, p := flagsZN s v, cycles := 2 })
    ∧ (let v := BitVec.ofNat 8 (s.y.toNat + 1)
       exec .iny s = .next { s with y := v, p := flagsZN s v, cycles := 2 })
    ∧ (let v := BitVec.ofNat 8 (s.x.toNat + 255)
       exec .dex s = .next { s with x := v, p := flagsZN s v, cycles := 2 })
    ∧ (let v := BitVec.ofNat 8 (s.y.toNat + 255)
       exec .dey s = .next { s with y := v, p := flagsZN s v, cycles := 2 })
    ∧ [Instr.tax, .tay, .txa, .tya, .tsx, .txs, .inx, .iny, .dex, .dey].map encode
        = [[0xAA#8], [0xA8#8], [0x8A#8], [0x98#8], [0xBA#8], [0x9A#8], [0xE8#8], [0xC8#8], [0xCA#8],
           [0x88#8]]
/-! ## Arithmetic and logic -/

/-- ADC, every form: the sum modulo 256, C the carry out of bit 7, V the signed overflow, the carry
participating in both (`42` R200, R216). -/
def Obligations.AdcAddsWithCarry : Prop :=
  ∀ (s : State) (m zp : Byte) (w : Addr), ∀ f ∈ adcForms m zp w s,
    (encode f.instr).head? = some f.opcode ∧
      exec f.instr s =
        .next { f.after with
          a := adcByte s.a f.operand (carry s),
          p := flagsVCZN s (adcOver s.a f.operand (carry s)) (adcCarry s.a f.operand (carry s))
                (adcByte s.a f.operand (carry s)),
          cycles := f.cycles }

/-- SBC, every form and both immediate opcodes: the difference less the borrow, C clear exactly on a
borrow, V the signed overflow of the subtraction (`42` R201; `46` R331). -/
def Obligations.SbcSubtractsWithBorrow : Prop :=
  ∀ (s : State) (m zp : Byte) (w : Addr), ∀ f ∈ sbcForms m zp w s,
    (encode f.instr).head? = some f.opcode ∧
      exec f.instr s =
        .next { f.after with
          a := sbcByte s.a f.operand (carry s),
          p := flagsVCZN s (sbcOver s.a f.operand (carry s)) (sbcCarry s.a f.operand (carry s))
                (sbcByte s.a f.operand (carry s)),
          cycles := f.cycles }

/-- ADC of an operand, then SBC of the same operand with the carry set to the complement of the original
carry, restores the accumulator (`42` R218; `95` L1-2; `90` C6). -/
def Obligations.SbcUndoesAdc : Prop :=
  ∀ (s : State) (m : Byte), ∃ t u,
    exec (.adcImm m) s = .next t ∧ exec (.sbcImm m) (t.setFlagTo .c (!s.flag .c)) = .next u
      ∧ u.a = s.a

/-- AND, ORA and EOR, every form; ALR and both ANC opcodes: A AND the operand, shifted right into carry,
or with bit 7 copied to carry (`42` R202, R203, R204; `46` R328, R329). -/
def Obligations.LogicOnA : Prop :=
  ∀ (s : State) (m zp : Byte) (w : Addr),
    (∀ f ∈ andForms m zp w s, (encode f.instr).head? = some f.opcode ∧
      exec f.instr s =
        .next { f.after with
          a := s.a &&& f.operand, p := flagsZN s (s.a &&& f.operand), cycles := f.cycles })
    ∧ (∀ f ∈ oraForms m zp w s, (encode f.instr).head? = some f.opcode ∧
      exec f.instr s =
        .next { f.after with
          a := s.a ||| f.operand, p := flagsZN s (s.a ||| f.operand), cycles := f.cycles })
    ∧ (∀ f ∈ eorForms m zp w s, (encode f.instr).head? = some f.opcode ∧
      exec f.instr s =
        .next { f.after with
          a := s.a ^^^ f.operand, p := flagsZN s (s.a ^^^ f.operand), cycles := f.cycles })
    ∧ exec (.alrImm m) s =
      .next { s with
        a := shiftRight (s.a &&& m) 0,
        p := flagsCZN s (outRight (s.a &&& m)) (shiftRight (s.a &&& m) 0), cycles := 2 }
    ∧ (∀ i ∈ [Instr.anc0B m, .anc2B m], exec i s =
      .next { s with
        a := s.a &&& m, p := flagsCZN s (outLeft (s.a &&& m)) (s.a &&& m), cycles := 2 })
    ∧ [Instr.alrImm m, .anc0B m, .anc2B m].map encode = [[0x4B#8, m], [0x0B#8, m], [0x2B#8, m]]
/-- CMP, CPX and CPY, every form: C is "not borrow", Z is equality, N is bit 7 of the 8-bit difference;
no register and not V (`42` R205, R206, R207, R215). -/
def Obligations.ComparesSetThreeFlags : Prop :=
  ∀ (s : State) (m zp : Byte) (w : Addr),
    (∀ f ∈ cmpForms m zp w s, (encode f.instr).head? = some f.opcode ∧
      exec f.instr s =
        .next { f.after with p := flagsCompare s s.a f.operand, cycles := f.cycles })
    ∧ (∀ f ∈ cpxForms m zp w s, (encode f.instr).head? = some f.opcode ∧
      exec f.instr s =
        .next { f.after with p := flagsCompare s s.x f.operand, cycles := f.cycles })
    ∧ (∀ f ∈ cpyForms m zp w s, (encode f.instr).head? = some f.opcode ∧
      exec f.instr s =
        .next { f.after with p := flagsCompare s s.y f.operand, cycles := f.cycles })

/-- BIT: Z from the AND with A, N and V from the operand's own bits 7 and 6 (`42` R208). -/
def Obligations.BitTestsTheOperand : Prop :=
  ∀ (s : State) (zp : Byte) (w : Addr), ∀ f ∈ bitForms zp w s,
    (encode f.instr).head? = some f.opcode ∧
      exec f.instr s =
        .next { f.after with
          p := statusByte (decide (128 ≤ f.operand.toNat)) (decide (f.operand.toNat / 64 % 2 = 1))
                (s.flag .b) (s.flag .d) (s.flag .i) (decide ((s.a &&& f.operand).toNat = 0))
                (s.flag .c),
          cycles := f.cycles }

/-- INC and DEC, every form: one read and one write of the same address, modulo 256; Z and N from the byte
written, C and V unchanged (`42` R209, R210). -/
def Obligations.IncAndDecMemory : Prop :=
  ∀ (s : State) (zp : Byte) (w : Addr),
    (∀ f ∈ incForms zp w s, (encode f.instr).head? = some f.opcode ∧
      exec f.instr s =
        .next { f.written s (BitVec.ofNat 8 ((f.old s).toNat + 1)) with
          p := flagsZN s (BitVec.ofNat 8 ((f.old s).toNat + 1)), cycles := f.cycles })
    ∧ (∀ f ∈ decForms zp w s, (encode f.instr).head? = some f.opcode ∧
      exec f.instr s =
        .next { f.written s (BitVec.ofNat 8 ((f.old s).toNat + 255)) with
          p := flagsZN s (BitVec.ofNat 8 ((f.old s).toNat + 255)), cycles := f.cycles })

/-! ## Shifts, rotates, fused instructions -/

/-- ASL, LSR, ROL and ROR, every form, of the accumulator or of memory (one read and one write of the same
address, A untouched): C is the bit shifted out, a rotate takes the old carry in, Z and N follow the result
(`43` R240 to R244). -/
def Obligations.ShiftsAndRotates : Prop :=
  ∀ (s : State) (zp : Byte) (w : Addr),
    exec .aslAcc s =
      .next { s with
        a := shiftLeft s.a 0, p := flagsCZN s (outLeft s.a) (shiftLeft s.a 0), cycles := 2 }
    ∧ exec .lsrAcc s =
      .next { s with
        a := shiftRight s.a 0, p := flagsCZN s (outRight s.a) (shiftRight s.a 0), cycles := 2 }
    ∧ exec .rolAcc s =
      .next { s with
        a := shiftLeft s.a (carry s), p := flagsCZN s (outLeft s.a) (shiftLeft s.a (carry s)),
        cycles := 2 }
    ∧ exec .rorAcc s =
      .next { s with
        a := shiftRight s.a (carry s), p := flagsCZN s (outRight s.a) (shiftRight s.a (carry s)),
        cycles := 2 }
    ∧ [Instr.aslAcc, .lsrAcc, .rolAcc, .rorAcc].map encode = [[0x0A#8], [0x4A#8], [0x2A#8], [0x6A#8]]
    ∧ (∀ f ∈ aslForms zp w s, (encode f.instr).head? = some f.opcode ∧
      exec f.instr s =
        .next { f.written s (shiftLeft (f.old s) 0) with
          p := flagsCZN s (outLeft (f.old s)) (shiftLeft (f.old s) 0), cycles := f.cycles })
    ∧ (∀ f ∈ lsrForms zp w s, (encode f.instr).head? = some f.opcode ∧
      exec f.instr s =
        .next { f.written s (shiftRight (f.old s) 0) with
          p := flagsCZN s (outRight (f.old s)) (shiftRight (f.old s) 0), cycles := f.cycles })
    ∧ (∀ f ∈ rolForms zp w s, (encode f.instr).head? = some f.opcode ∧
      exec f.instr s =
        .next { f.written s (shiftLeft (f.old s) (carry s)) with
          p := flagsCZN s (outLeft (f.old s)) (shiftLeft (f.old s) (carry s)), cycles := f.cycles })
    ∧ (∀ f ∈ rorForms zp w s, (encode f.instr).head? = some f.opcode ∧
      exec f.instr s =
        .next { f.written s (shiftRight (f.old s) (carry s)) with
          p := flagsCZN s (outRight (f.old s)) (shiftRight (f.old s) (carry s)),
          cycles := f.cycles })
/-- The six fused instructions, every form: the byte shifted, rotated, incremented or decremented in memory
(one read, one write), then combined with A: OR, AND, exclusive or, addition with the bit rotated out as
carry, subtraction, comparison; Z and N from that second part (`46` R322 to R327). -/
def Obligations.FusedInstructions : Prop :=
  ∀ (s : State) (zp : Byte) (w : Addr),
    (∀ f ∈ sloForms zp w s, (encode f.instr).head? = some f.opcode ∧
      exec f.instr s =
        .next { f.written s (shiftLeft (f.old s) 0) with
          a := s.a ||| shiftLeft (f.old s) 0,
          p := flagsCZN s (outLeft (f.old s)) (s.a ||| shiftLeft (f.old s) 0), cycles := f.cycles })
    ∧ (∀ f ∈ rlaForms zp w s, (encode f.instr).head? = some f.opcode ∧
      exec f.instr s =
        .next { f.written s (shiftLeft (f.old s) (carry s)) with
          a := s.a &&& shiftLeft (f.old s) (carry s),
          p := flagsCZN s (outLeft (f.old s)) (s.a &&& shiftLeft (f.old s) (carry s)),
          cycles := f.cycles })
    ∧ (∀ f ∈ sreForms zp w s, (encode f.instr).head? = some f.opcode ∧
      exec f.instr s =
        .next { f.written s (shiftRight (f.old s) 0) with
          a := s.a ^^^ shiftRight (f.old s) 0,
          p := flagsCZN s (outRight (f.old s)) (s.a ^^^ shiftRight (f.old s) 0),
          cycles := f.cycles })
    ∧ (∀ f ∈ rraForms zp w s, (encode f.instr).head? = some f.opcode ∧
      exec f.instr s =
        (let v := shiftRight (f.old s) (carry s)
         let c := (f.old s).toNat % 2
         .next { f.written s v with
          a := adcByte s.a v c, p := flagsVCZN s (adcOver s.a v c) (adcCarry s.a v c) (adcByte s.a v c),
          cycles := f.cycles }))
    ∧ (∀ f ∈ iscForms zp w s, (encode f.instr).head? = some f.opcode ∧
      exec f.instr s =
        (let v := BitVec.ofNat 8 ((f.old s).toNat + 1)
         let c := carry s
         .next { f.written s v with
          a := sbcByte s.a v c, p := flagsVCZN s (sbcOver s.a v c) (sbcCarry s.a v c) (sbcByte s.a v c),
          cycles := f.cycles }))
    ∧ (∀ f ∈ dcpForms zp w s, (encode f.instr).head? = some f.opcode ∧
      exec f.instr s =
        (let v := BitVec.ofNat 8 ((f.old s).toNat + 255)
         .next { f.written s v with p := flagsCompare s s.a v, cycles := f.cycles }))
/-- A fused instruction on RAM is its two legal instructions run one after the other, the second as an
immediate with the byte the first one left in memory; only the cycles are its own (`46` R322 to R327). -/
def Obligations.FusedIsTwoInstructions : Prop :=
  ∀ (s : State) (zp : Byte) (w : Addr), ∀ f ∈ fusions zp w s, f.ea < 0x2000 → ∃ t u,
    exec f.first s = .next t ∧ exec (f.second (busValue t (word f.ea))) t = .next u
      ∧ exec f.fused s = .next { u with cycles := f.cycles }

/-! ## Control flow -/

/-- The eight branches: not taken, 2 cycles and nothing else; taken, `PC` plus the sign-extended
displacement modulo 65536, 3 cycles, one more if the target is on another page than the following
instruction (`44` R260 to R268). -/
def Obligations.BranchesTestOneFlag : Prop :=
  ∀ (s : State) (rel : Byte), ∀ b ∈ branches rel s,
    encode b.1 = [b.2.1, rel] ∧
      exec b.1 s =
        if b.2.2 then
          .next { s with
            pc := BitVec.ofInt 16 ((s.pc.toNat : Int) + rel.toInt), p := sameFlags s,
            cycles := 3 + otherPage (BitVec.ofInt 16 ((s.pc.toNat : Int) + rel.toInt)).toNat s.pc.toNat }
        else .next { s with p := sameFlags s, cycles := 2 }

/-- JMP: absolute in 3 cycles; indirect in 5, the pointer's high byte read from the same page as its low
byte, in this order and with each read's side effects (`44` R269; `40` R150). -/
def Obligations.JmpAndItsPageBug : Prop :=
  ∀ (s : State) (w : Addr),
    exec (.jmpAbs w) s = .next { s with pc := w, p := sameFlags s, cycles := 3 }
    ∧ exec (.jmpInd w) s =
      (let second := word (w.toNat / 256 * 256 + (w.toNat + 1) % 256)
       let s1 := busEffect s w
       .next { busEffect s1 second with
        pc := word ((busValue s w).toNat + 256 * (busValue s1 second).toNat), p := sameFlags s,
        cycles := 5 })
    ∧ (encode (.jmpAbs w)).head? = some 0x4C#8 ∧ (encode (.jmpInd w)).head? = some 0x6C#8

/-- JSR pushes the address of its own last byte, high byte first, and jumps; RTS pulls it, low byte first,
and adds one (`44` R271, R272). -/
def Obligations.JsrAndRts : Prop :=
  ∀ (s : State) (w : Addr),
    (let r := (s.pc.toNat + 65535) % 65536
     exec (.jsrAbs w) s =
      .next { s with
        ram := Memory.write (Memory.write s.ram (stackKey s 0) (BitVec.ofNat 8 (r / 256)))
          (stackKey s 255) (BitVec.ofNat 8 (r % 256)),
        sp := BitVec.ofNat 8 (s.sp.toNat + 254), pc := w, p := sameFlags s, cycles := 6 })
    ∧ exec .rts s =
      .next { s with
        pc := word (peek s (stackKey s 1) + 256 * peek s (stackKey s 2) + 1),
        sp := BitVec.ofNat 8 (s.sp.toNat + 2), p := sameFlags s, cycles := 6 }
    ∧ (encode (.jsrAbs w)).head? = some 0x20#8 ∧ encode .rts = [0x60#8]
/-! ## Stack, flags, BRK, RTI -/

/-- PHA, PLA, PHP and PLP: the stack page byte, the pointer modulo 256, the flags; PHP pushes break and
unused high, PLP discards bits 4 and 5 (`45` R290 to R293). -/
def Obligations.PushesAndPulls : Prop :=
  ∀ s : State,
    exec .pha s =
      .next { s with
        ram := Memory.write s.ram (stackKey s 0) s.a, sp := BitVec.ofNat 8 (s.sp.toNat + 255),
        p := sameFlags s, cycles := 3 }
    ∧ exec .php s =
      .next { s with
        ram := Memory.write s.ram (stackKey s 0) (s.p ||| 0x30#8),
        sp := BitVec.ofNat 8 (s.sp.toNat + 255), p := sameFlags s, cycles := 3 }
    ∧ exec .pla s =
      .next { s with
        a := Memory.read s.ram (stackKey s 1), sp := BitVec.ofNat 8 (s.sp.toNat + 1),
        p := flagsZN s (Memory.read s.ram (stackKey s 1)), cycles := 4 }
    ∧ exec .plp s =
      .next { s with
        p := (Memory.read s.ram (stackKey s 1) &&& 0xCF#8) ||| 0x20#8,
        sp := BitVec.ofNat 8 (s.sp.toNat + 1), cycles := 4 }
    ∧ [Instr.pha, .php, .pla, .plp].map encode = [[0x48#8], [0x08#8], [0x68#8], [0x28#8]]
/-- What the stack gives back, from any state that agrees on the stack alone: RTS after JSR returns to the
instruction after the JSR, PLA after PHA restores A, PLP after PHP restores every flag of an observable
status (break 0, always-set 1); the pointer is back each time (`44` R270, R271, R272; `45` R290 to R293). -/
def Obligations.StackRoundTrips : Prop :=
  ∀ (s : State) (w : Addr),
    (∃ t, exec (.jsrAbs w) s = .next t ∧ ∀ u : State, u.sp = t.sp → u.ram = t.ram →
      ∃ r, exec .rts u = .next r ∧ r.pc = s.pc ∧ r.sp = s.sp)
    ∧ (∃ t, exec .pha s = .next t ∧ ∀ u : State, u.sp = t.sp → u.ram = t.ram →
      ∃ r, exec .pla u = .next r ∧ r.a = s.a ∧ r.sp = s.sp)
    ∧ (∃ t, exec .php s = .next t ∧ ∀ u : State, u.sp = t.sp → u.ram = t.ram →
      ∃ r, exec .plp u = .next r ∧ r.sp = s.sp ∧
        (s.flag .b = false → s.flag .u = true → r.p = s.p))
/-- CLC, SEC, CLI, SEI, CLD, SED and CLV write one flag, 2 cycles, nothing else (`45` R294 to R300). -/
def Obligations.FlagInstructionsWriteOneFlag : Prop :=
  ∀ s : State, ∀ e ∈
      [(Instr.clc, 0x18#8, StatusFlag.c, false), (.sec, 0x38#8, .c, true), (.cli, 0x58#8, .i, false),
       (.sei, 0x78#8, .i, true), (.cld, 0xD8#8, .d, false), (.sed, 0xF8#8, .d, true),
       (.clv, 0xB8#8, .v, false)],
    encode e.1 = [e.2.1] ∧
      exec e.1 s = .next { s with p := flagSet s e.2.2.1 e.2.2.2, cycles := 2 }

/-- The documented NOP and the 27 undocumented ones change nothing but the cycles; only an indexed
absolute form can pay the page-cross cycle, and no form reads its operand (`45` R301; `46` R330, decision
D13 for the operand that is not read). -/
def Obligations.NoOpsDoNothing : Prop :=
  ∀ (s : State) (m zp : Byte) (w : Addr), ∀ e ∈ noOps m zp w s,
    (encode e.1).head? = some e.2.1 ∧
      exec e.1 s = .next { s with p := sameFlags s, cycles := e.2.2 }

/-- BRK: the address after its padding byte and the status with break and unused high are pushed, `P.I`
is set after the push, `PC` comes from the IRQ vector, 7 cycles (`45` R302; that `P.I` is set after the
push is the spec's decision D12). -/
def Obligations.BrkEntersTheIrqHandler : Prop :=
  ∀ s : State,
    exec .brk s =
      .next { s with
        ram := pushed3 s (s.pc + 1) (s.p ||| 0x30#8), sp := BitVec.ofNat 8 (s.sp.toNat + 253),
        p := flagSet s .i true, pc := vector s 0xFFFE, cycles := 7 }
    ∧ encode .brk = [0x00#8]
/-- RTI: the status without bits 4 and 5, then the program counter low and high, are pulled; nothing is
added (`45` R303; `60` R430). -/
def Obligations.RtiRestoresStatusAndPc : Prop :=
  ∀ s : State,
    exec .rti s =
      .next { s with
        p := (Memory.read s.ram (stackKey s 1) &&& 0xCF#8) ||| 0x20#8,
        pc := word (peek s (stackKey s 2) + 256 * peek s (stackKey s 3)),
        sp := BitVec.ofNat 8 (s.sp.toNat + 3), cycles := 6 }
    ∧ encode .rti = [0x40#8]
/-! ## Interrupts and reset -/

/-- `irq()` is a no-op while interrupt-disable is set. `nmi()`, and `irq()` when not masked: `PC` and the
status `(P & 0xCF) | 0x20` pushed, break cleared, always-set forced, `P.I` set after the push, `PC` from the
vector, 8 or 7 cycles assigned; A, X and Y not saved (`60` R410, R411, R412, R413, R414; that `P.I` is set
after the push is the spec's decision D12). -/
def Obligations.InterruptEntry : Prop :=
  ∀ s : State,
    let entered := fun (v n : Nat) => { s with
      ram := pushed3 s s.pc ((s.p &&& 0xCF#8) ||| 0x20#8), sp := BitVec.ofNat 8 (s.sp.toNat + 253),
      p := statusByte (s.flag .n) (s.flag .v) false (s.flag .d) true (s.flag .z) (s.flag .c),
      pc := vector s v, cycles := n }
    nmi s = entered 0xFFFA 8 ∧ (s.flag .i = false → irq s = entered 0xFFFE 7)
      ∧ (s.flag .i = true → irq s = s)
/-- RTI resumes exactly where an NMI, an unmasked IRQ or a BRK entered: `PC`, `S` and, from an observable
status, every flag are back, whatever the handler did to the registers; after BRK the resume address skips
the padding byte (`45` R302, R303; `60` R415, R430). -/
def Obligations.RtiResumes : Prop :=
  ∀ s u : State, s.flag .b = false → s.flag .u = true →
    ((u.sp = (nmi s).sp ∧ u.ram = (nmi s).ram)
        ∨ (s.flag .i = false ∧ u.sp = (irq s).sp ∧ u.ram = (irq s).ram) →
      ∃ r, exec .rti u = .next r ∧ r.pc = s.pc ∧ r.sp = s.sp ∧ r.p = s.p)
    ∧ ∃ t, exec .brk s = .next t ∧ (u.sp = t.sp → u.ram = t.ram →
      ∃ r, exec .rti u = .next r ∧ r.pc = s.pc + 1 ∧ r.sp = s.sp ∧ r.p = s.p)

/-- At a boundary a reset drops the other requests, from a Jammed CPU too; an NMI request comes before an
IRQ, which is then masked; an unmasked IRQ comes next; with none of them only the master counter and the
request list move (`60` R421, R422, R420; `64` R636; the order is the spec's decision D24). The model's own
choices: an empty request list asks for nothing (log 9), a reset drops an NMI of the same boundary (log 10),
a Jammed CPU runs again after a delivered interrupt (log 6). -/
def Obligations.InterruptPriority : Prop :=
  ∀ s : State,
    let r : Request := match s.requests with
      | [] => { reset := false, irq := false }
      | r :: _ => r
    let u := { s with master := s.master + 1, requests := s.requests.drop 1 }
    tickEnd s = .next
      (if r.reset then systemReset u
       else if s.ppu.nmiRequest then
        { nmi { u with ppu := { s.ppu with nmiRequest := false } } with jammed := false }
       else if r.irq ∧ s.flag .i = false then { irq u with jammed := false } else u)


/-- Reset. `reset()` gives the CPU its values from every state, the Jammed one too. `SystemReset()`: the
CPU, DMA, bank register, master counter and every register of the picture processor at their reset values;
RAM, cartridge memory, nametables, palette, object memory and frame buffer unchanged; the reset vector read
with the bank already 0; a second reset changes nothing more (`70` R660 to R665; `64` R640; the values
outside the CPU are the spec's decisions D22, D32, D35, D40). -/
def Obligations.ResetInstallsItsValues : Prop :=
  ∀ s : State,
    cpuReset s =
      { s with
        a := 0x00#8, x := 0x00#8, y := 0x00#8, sp := 0xFD#8, p := 0x20#8, pc := vector s 0xFFFC,
        cycles := 8, jammed := false }
    ∧ (∃ c : Cartridge,
        c = { s.cart with
              mapper := match s.cart.mapper with
                | .fixed => .fixed
                | .switchable _ => .switchable 0#4 } ∧
        systemReset s =
          { s with
            a := 0x00#8, x := 0x00#8, y := 0x00#8, sp := 0xFD#8, p := 0x20#8, cycles := 8,
            jammed := false, pc := vector { s with cart := c } 0xFFFC, master := 0,
            dma := { page := 0#8, offset := 0#8, active := false, align := true, data := 0#8 },
            cart := c,
            ppu := { s.ppu with
              cycle := 0, scanline := 0, v := 0#15, t := 0#15, fineX := 0#8, w := false,
              dataBuffer := 0#8, ctrl := 0#8, mask := 0#8, vblank := false, spr0hit := false,
              sprovf := false, oamAddr := 0#8, shPatLo := 0#16, shPatHi := 0#16, shAttLo := 0#16,
              shAttHi := 0#16, nxId := 0#8, nxAtt := 0#2, nxLo := 0#8, nxHi := 0#8, sprList := [],
              nmiRequest := false } })
    ∧ systemReset (systemReset s) = systemReset s
/-! ## Bus, cartridge, mapper -/

/-- Internal RAM is mirrored every 2 KiB: a byte written at an address below 0x2000 is read at exactly its
four mirrors, every other byte below 0x2000 is as before. The test region reads 0 and ignores writes; 0x4014
reads 0 (`20` R65, R68; `61` R448). -/
def Obligations.RamMirrorsAndTestRegion : Prop :=
  ∀ (s : State) (a b : Addr) (v : Byte),
    (a.toNat < 0x2000 → b.toNat < 0x2000 →
      busValue (memWrite s a v) b = if a.toNat % 2048 = b.toNat % 2048 then v else busValue s b)
    ∧ (0x4018 ≤ a.toNat → a.toNat ≤ 0x401F →
      busValue s a = 0#8 ∧ busEffect s a = s ∧ memWrite s a v = s)
    ∧ busValue s 0x4014#16 = 0#8 ∧ busEffect s 0x4014#16 = s
/-- A bus read changes nothing outside the picture processor's status and data registers (and their
mirrors); there it changes only what the register's rule says; a collaborator's answer draws one free value
(`20` R77; `62` R512, R516; logs 7, 8; that a palette read refills the buffer with the palette byte and that
the increment is always the plain one are the spec's decisions D54 and D51). -/
def Obligations.ReadsHaveOnlyTheirSideEffects : Prop :=
  ∀ (s : State) (a : Addr),
    busEffect s a =
      if 0x2000 ≤ a.toNat ∧ a.toNat < 0x4000 ∧ a.toNat % 8 = 2 then
        { s with ppu := { s.ppu with vblank := false, w := false }, draws := s.draws + 1 }
      else if 0x2000 ≤ a.toNat ∧ a.toNat < 0x4000 ∧ a.toNat % 8 = 7 then
        { s with ppu := { s.ppu with
            dataBuffer := ppuRead s.cart s.ppu (BitVec.ofNat 14 (s.ppu.v.toNat % 16384)),
            v := BitVec.ofNat 15 (s.ppu.v.toNat + if s.ppu.ctrl.getLsbD 2 then 32 else 1) } }
      else if 0x4000 ≤ a.toNat ∧ a.toNat ≤ 0x4017 ∧ a.toNat ≠ 0x4014 then
        { s with draws := s.draws + 1 }
      else s

/-- What cartridge space reads as: 0 below 0x8000; above, the program byte that the fixed or the switchable
mapper selects, the index wrapping at the size of program memory (`61` R460, R462, R463, R466; the wrap and
the 0 are the spec's decisions D38 and D37). -/
def Obligations.MapperSelectsTheProgramByte : Prop :=
  ∀ (s : State) (a : Addr), 0x4020 ≤ a.toNat →
    busValue s a =
      if a.toNat < 0x8000 then 0#8 else Memory.read s.cart.prg (programIndex s.cart a.toNat)

/-- A write to 0x8000 or above sets the switchable mapper's bank to the low nibble and does nothing else;
the fixed mapper and addresses 0x4020 to 0x7FFF ignore it; program memory never changes (`61` R461, R464;
decision D36). -/
def Obligations.BankSelectTakesTheLowNibble : Prop :=
  ∀ (s : State) (a : Addr) (v : Byte), 0x4020 ≤ a.toNat →
    memWrite s a v =
      match s.cart.mapper with
      | .fixed => s
      | .switchable _ =>
        if 0x8000 ≤ a.toNat then
          { s with cart := { s.cart with mapper := .switchable (BitVec.ofNat 4 (v.toNat % 16)) } }
        else s

/-- No step changes the cartridge's header, its mapper's identity or its program memory, nor pattern memory
that is ROM (`10` R33, R34; `61` R451; decision D36). -/
def Obligations.CartridgeIsImmutable : Prop :=
  ∀ s t : State, step s = .next t →
    t.cart.prgBanks = s.cart.prgBanks ∧ t.cart.chrBanks = s.cart.chrBanks
      ∧ t.cart.trainer = s.cart.trainer ∧ t.cart.mirroring = s.cart.mirroring
      ∧ t.cart.mapper.id = s.cart.mapper.id ∧ t.cart.prg = s.cart.prg
      ∧ (s.cart.chrBanks ≠ 0 → t.cart.chr = s.cart.chr)

/-- Loading: a file without the signature and a file with another mapper id are fatal; a file with no
program bank and one shorter than its header claims are refused (log 15); a cartridge is built exactly from
the well-formed files, with the header's fields and the program and pattern bytes at their offsets, the
trainer skipped (`61` R450, R451; `60` R402; `10` R33; that the trainer is skipped is decision D28). -/
def Obligations.LoadReadsTheHeader : Prop :=
  ∀ (f : List Byte) (chrRam : Memory),
    let trainer := (f.getD 6 0#8).toNat / 4 % 2 = 1
    let o := 16 + if trainer then 512 else 0
    let prg := (f.getD 4 0#8).toNat * 16384
    let chr := (f.getD 5 0#8).toNat * 8192
    (romSignatureOk f = false → loadCartridge chrRam f = .fault .badSignature)
    ∧ (romSignatureOk f = true → romMapperOk f = false →
      loadCartridge chrRam f = .fault .unknownMapper)
    ∧ (romSignatureOk f = true → romMapperOk f = true →
      (prg = 0 → loadCartridge chrRam f = .refused .noProgramBank)
      ∧ (prg ≠ 0 → f.length < o + prg + chr → loadCartridge chrRam f = .refused .shortFile)
      ∧ (prg ≠ 0 → o + prg + chr ≤ f.length → ∃ c, loadCartridge chrRam f = .next c))
    ∧ (romWellFormed f = true ↔ ∃ c, loadCartridge chrRam f = .next c)
    ∧ ∀ c, loadCartridge chrRam f = .next c →
      c.prgBanks = (f.getD 4 0#8).toNat ∧ c.chrBanks = (f.getD 5 0#8).toNat
        ∧ c.trainer = decide trainer
        ∧ c.mirroring = (if (f.getD 6 0#8).toNat % 2 = 1 then .vertical else .horizontal)
        ∧ c.mapper.id = (f.getD 6 0#8).toNat / 16 + (f.getD 7 0#8).toNat / 16 * 16
        ∧ (∀ k, k < prg → Memory.read c.prg k = f.getD (o + k) 0#8)
        ∧ (c.chrBanks ≠ 0 → ∀ k, k < chr → Memory.read c.chr k = f.getD (o + prg + k) 0#8)
        ∧ (c.chrBanks = 0 → c.chr = chrRam)


/-! ## The picture processor's registers and memories -/

/-- Object memory and the latched registers. The control, mask and OAM address registers latch what is
written, control also sets the nametable bits of `t`; an OAM data write lands at the OAM address, which then
moves on by one modulo 256, an OAM data read returns the byte there; a status write is ignored and a status
read gives the three flags in bits 7 to 5; the write-only registers read 0 (`62` R509 to R515; the increment
is the spec's decision D44). -/
def Obligations.RegisterWindow : Prop :=
  ∀ (s : State) (a : Addr) (d : Byte), 0x2000 ≤ a.toNat → a.toNat < 0x4000 →
    (a.toNat % 8 = 0 → memWrite s a d =
      { s with
        ppu := { s.ppu with
          ctrl := d,
          t := BitVec.ofNat 15
            (s.ppu.t.toNat / 4096 * 4096 + d.toNat % 4 * 1024 + s.ppu.t.toNat % 1024) } })
    ∧ (a.toNat % 8 = 1 → memWrite s a d = { s with ppu := { s.ppu with mask := d } })
    ∧ (a.toNat % 8 = 2 → memWrite s a d = s ∧ (busValue s a).getLsbD 7 = s.ppu.vblank
      ∧ (busValue s a).getLsbD 6 = s.ppu.spr0hit ∧ (busValue s a).getLsbD 5 = s.ppu.sprovf)
    ∧ (a.toNat % 8 = 3 → memWrite s a d = { s with ppu := { s.ppu with oamAddr := d } })
    ∧ (a.toNat % 8 = 4 → busValue s a = Memory.read s.ppu.oam s.ppu.oamAddr.toNat
      ∧ memWrite s a d =
        { s with
          ppu := { s.ppu with
            oam := Memory.write s.ppu.oam s.ppu.oamAddr.toNat d,
            oamAddr := BitVec.ofNat 8 (s.ppu.oamAddr.toNat + 1) } })
    ∧ (a.toNat % 8 ≠ 2 → a.toNat % 8 ≠ 4 → a.toNat % 8 ≠ 7 → busValue s a = 0#8)

/-- The registers written twice, at every mirror. Scroll: the first write gives coarse-X and fine-X, the
second coarse-Y and fine-Y, in the temporary register. Address: the high six bits first, bit 14 cleared, then
the low byte, which also copies the whole temporary register into the current one, the only one of the four
that moves it (`62` R513, R517; `10` R38; `20` R66). -/
def Obligations.TwoWriteRegisters : Prop :=
  ∀ (s : State) (a : Addr) (d : Byte), 0x2000 ≤ a.toNat → a.toNat < 0x4000 →
    (a.toNat % 8 = 5 → memWrite s a d =
      if s.ppu.w then
        { s with
          ppu := { s.ppu with
            t := BitVec.ofNat 15 (d.toNat % 8 * 4096 + s.ppu.t.toNat / 1024 % 4 * 1024
              + d.toNat / 8 * 32 + s.ppu.t.toNat % 32),
            w := false } }
      else
        { s with
          ppu := { s.ppu with
            fineX := BitVec.ofNat 8 (d.toNat % 8),
            t := BitVec.ofNat 15 (s.ppu.t.toNat / 32 * 32 + d.toNat / 8), w := true } })
    ∧ (a.toNat % 8 = 6 → memWrite s a d =
      if s.ppu.w then
        { s with
          ppu := { s.ppu with
            t := BitVec.ofNat 15 (s.ppu.t.toNat / 256 * 256 + d.toNat),
            v := BitVec.ofNat 15 (s.ppu.t.toNat / 256 * 256 + d.toNat), w := false } }
      else
        { s with
          ppu := { s.ppu with
            t := BitVec.ofNat 15 (d.toNat % 64 * 256 + s.ppu.t.toNat % 256), w := true } })

/-- The data register, at every mirror: a read below 0x3F00 returns the buffer, a palette read returns the
entry, and both refill the buffer; a write lands in PPU space; read and write move the address by 1 or 32
modulo 2^15, and change nothing else (`62` R516, R518; `20` R66; the palette refill and the plain increment
are the spec's decisions D54 and D51). -/
def Obligations.DataRegisterIsBuffered : Prop :=
  ∀ (s : State) (r : Addr) (d : Byte), 0x2000 ≤ r.toNat → r.toNat < 0x4000 → r.toNat % 8 = 7 →
    let a := BitVec.ofNat 14 (s.ppu.v.toNat % 16384)
    let v := BitVec.ofNat 15 (s.ppu.v.toNat + if s.ppu.ctrl.toNat / 4 % 2 = 1 then 32 else 1)
    busValue s r = (if 0x3F00 ≤ a.toNat then ppuRead s.cart s.ppu a else s.ppu.dataBuffer)
    ∧ busEffect s r = { s with ppu := { s.ppu with dataBuffer := ppuRead s.cart s.ppu a, v := v } }
    ∧ memWrite s r d = (let u := ppuWrite s a d
       { u with ppu := { u.ppu with v := v } })


/-- PPU space: a byte written is read back at exactly the addresses that nametable mirroring and the palette
aliases make the same byte; pattern memory takes writes only where it is RAM (`62` R530 to R534). -/
def Obligations.PpuSpaceIsMirrored : Prop :=
  ∀ (s : State) (a b : BitVec 14) (d : Byte),
    let t := ppuWrite s a d
    (0x2000 ≤ a.toNat ∨ s.cart.chrBanks = 0 →
      (samePpuByte s.cart.mirroring a.toNat b.toNat → ppuRead t.cart t.ppu b = d)
      ∧ (¬ samePpuByte s.cart.mirroring a.toNat b.toNat →
        ppuRead t.cart t.ppu b = ppuRead s.cart s.ppu b))
    ∧ (a.toNat < 0x2000 → s.cart.chrBanks ≠ 0 → t = s)

/-! ## The picture processor's pipeline -/

/-- The scroll updates with rendering on: coarse-X 31 wraps and flips the horizontal nametable; fine-Y 7
rolls into coarse-Y, of which 29 wraps with a flip and 31 without; the copies take coarse-X and the
horizontal bit, or fine-Y, coarse-Y and the vertical bit, from the temporary register. With rendering off
none of them changes anything. On the pre-render and visible scanlines coarse-X steps at every eighth fetch
cycle, fine-Y at cycle 256 after it, the horizontal copy runs at cycle 257, the vertical one at cycles 280
to 304 of the pre-render scanline, and no other clock moves the address (`63` R561, R570, R576, R579, R580,
R581; that they need rendering on is the spec's decision D41, their order D56). -/
def Obligations.ScrollUpdates : Prop :=
  ∀ (c : Cartridge) (p : Ppu),
    let cx := p.v.toNat % 32
    let cy := p.v.toNat / 32 % 32
    let nt := p.v.toNat / 1024 % 4
    let fy := p.v.toNat / 4096
    let v := fun fy nt cy cx => BitVec.ofNat 15 (fy * 4096 + nt * 1024 + cy * 32 + cx)
    let hor := fun u : BitVec 15 => u.toNat % 32 + u.toNat / 1024 % 2 * 1024
    (if p.mask.toNat / 8 % 4 = 0 then incX p = p ∧ incY p = p ∧ copyX p = p ∧ copyY p = p
     else
      incX p = (if cx = 31 then { p with v := v fy (nt / 2 * 2 + (1 - nt % 2)) cy 0 }
        else { p with v := v fy nt cy (cx + 1) })
      ∧ incY p = (if fy < 7 then { p with v := v (fy + 1) nt cy cx }
        else if cy = 29 then { p with v := v 0 ((nt + 2) % 4) 0 cx }
        else if cy = 31 then { p with v := v 0 nt 0 cx }
        else { p with v := v 0 nt (cy + 1) cx })
      ∧ copyX p = { p with v := BitVec.ofNat 15 (p.v.toNat - hor p.v + hor p.t) }
      ∧ copyY p = { p with v := BitVec.ofNat 15 (p.t.toNat - hor p.t + hor p.v) })
    ∧ (ppuClock c p).v =
      if -1 ≤ p.scanline ∧ p.scanline ≤ 239 then
        if p.cycle = 256 then (incY (incX p)).v
        else if p.cycle = 257 then (copyX p).v
        else if p.scanline = -1 ∧ 280 ≤ p.cycle ∧ p.cycle ≤ 304 then (copyY p).v
        else if (2 ≤ p.cycle ∧ p.cycle ≤ 257 ∨ 321 ≤ p.cycle ∧ p.cycle ≤ 337) ∧ p.cycle % 8 = 0 then
          (incX p).v
        else p.v
      else p.v

/-- The addresses of the four background fetches and of a sprite row: the nametable byte, the attribute
bits of the tile's quadrant, tile id × 16 + fine-Y in the half the control register selects, the high plane
8 above; 8-pixel sprites take their half from the control register, 16-pixel ones the pair of tiles and the
half from the tile byte, a vertical flip reversing the rows (`63` R572 to R575, R595, R601). -/
def Obligations.FetchAddresses : Prop :=
  ∀ (c : Cartridge) (p : Ppu) (tile attr : Byte) (row : Nat),
    let cx := p.v.toNat % 32
    let cy := p.v.toNat / 32 % 32
    let nt := p.v.toNat / 1024 % 4
    let half := p.ctrl.toNat / 16 % 2
    let at14 := fun n : Nat => ppuRead c p (BitVec.ofNat 14 n)
    let h := if p.ctrl.toNat / 32 % 2 = 1 then 16 else 8
    let r := if 128 ≤ attr.toNat then h - 1 - row else row
    (fetchNametable c p).nxId = at14 (0x2000 + p.v.toNat % 4096)
    ∧ (fetchAttribute c p).nxAtt.toNat =
      (at14 (0x23C0 + nt * 1024 + cy / 4 * 8 + cx / 4)).toNat
        / (if cy / 2 % 2 = 1 then 16 else 1) / (if cx / 2 % 2 = 1 then 4 else 1) % 4
    ∧ (fetchPatternLow c p).nxLo = at14 (half * 4096 + p.nxId.toNat * 16 + p.v.toNat / 4096)
    ∧ (fetchPatternHigh c p).nxHi = at14 (half * 4096 + p.nxId.toNat * 16 + p.v.toNat / 4096 + 8)
    ∧ (row < h →
      (spritePatternAddr p tile attr row).toNat =
        if h = 8 then p.ctrl.toNat / 8 % 2 * 4096 + tile.toNat * 16 + r
        else tile.toNat % 2 * 4096 + (tile.toNat / 2 * 2 + r / 8) * 16 + r % 8)

/-- The background shifters and latches. On every fetch clock the four shifters move left by one; at its
phase 0 the low bytes take the staged pattern bytes and the two palette bits widened to eight. The four
latches are fetched at phases 0, 2, 4 and 6, and no other clock changes any of them. The pixel tap takes bit
15 less fine-X of each shifter where the background is enabled, else nothing (`63` R570, R571, R572, R605;
that shifts and fetches run with rendering off too is the spec's decision D41, the phases are its general
knowledge, log 11). -/
def Obligations.BackgroundShiftersAndLatches : Prop :=
  ∀ (c : Cartridge) (p : Ppu),
    let q := ppuClock c p
    let shifted := fun (r : BitVec 16) (low : Nat) =>
      if p.cycle % 8 = 1 then BitVec.ofNat 16 (2 * r.toNat / 256 * 256 + low) else BitVec.ofNat 16 (2 * r.toNat)
    let bit := fun r : BitVec 16 => r.toNat / 2 ^ (15 - p.fineX.toNat) % 2
    (fetching p →
      q.shPatLo = shifted p.shPatLo p.nxLo.toNat ∧ q.shPatHi = shifted p.shPatHi p.nxHi.toNat
      ∧ q.shAttLo = shifted p.shAttLo (255 * (p.nxAtt.toNat % 2))
      ∧ q.shAttHi = shifted p.shAttHi (255 * (p.nxAtt.toNat / 2))
      ∧ q.nxId = (if p.cycle % 8 = 1 then (fetchNametable c p).nxId else p.nxId)
      ∧ q.nxAtt = (if p.cycle % 8 = 3 then (fetchAttribute c p).nxAtt else p.nxAtt)
      ∧ q.nxLo = (if p.cycle % 8 = 5 then (fetchPatternLow c p).nxLo else p.nxLo)
      ∧ q.nxHi = (if p.cycle % 8 = 7 then (fetchPatternHigh c p).nxHi else p.nxHi))
    ∧ (¬ fetching p →
      q.shPatLo = p.shPatLo ∧ q.shPatHi = p.shPatHi ∧ q.shAttLo = p.shAttLo ∧ q.shAttHi = p.shAttHi
      ∧ q.nxId = p.nxId ∧ q.nxAtt = p.nxAtt ∧ q.nxLo = p.nxLo ∧ q.nxHi = p.nxHi)
    ∧ (bgPixel p).p.toNat =
      (if p.mask.toNat / 8 % 2 = 1 then bit p.shPatHi * 2 + bit p.shPatLo else 0)
    ∧ (bgPixel p).pal.toNat =
      (if p.mask.toNat / 8 % 2 = 1 then bit p.shAttHi * 2 + bit p.shAttLo else 0)

/-- The position moves by one a clock over the 341 by 262 grid: after any number of clocks it is the sum
modulo 89342 (`63` R560, R620; that no frame skips a cycle is the spec's decision D47). -/
def Obligations.FrameHas89342Ticks : Prop :=
  ∀ (c : Cartridge) (n : Nat) (p : Ppu),
    p.cycle < 341 → -1 ≤ p.scanline → p.scanline ≤ 260 →
    position (ppuClocks c n p) = (position p + n) % 89342
      ∧ (ppuClocks c n p).cycle < 341 ∧ -1 ≤ (ppuClocks c n p).scanline
      ∧ (ppuClocks c n p).scanline ≤ 260

/-- `vblank` rises at cycle 1 of scanline 241 and falls at cycle 1 of the pre-render scanline, nowhere else
in the pipeline; an NMI request is raised at the first of these only, if enabled; the three flags and the
sprite list are cleared at the second (`63` R566, R567; `60` R406; the list and the single instant are the
spec's decisions D42 and D25). -/
def Obligations.VblankOncePerFrame : Prop :=
  ∀ (c : Cartridge) (p : Ppu),
    let start := p.scanline = 241 ∧ p.cycle = 1
    let clear := p.scanline = -1 ∧ p.cycle = 1
    ((ppuClock c p).vblank = if start then true else if clear then false else p.vblank)
    ∧ ((ppuClock c p).nmiRequest = (p.nmiRequest || (decide start && decide (128 ≤ p.ctrl.toNat))))
    ∧ (clear → (ppuClock c p).spr0hit = false ∧ (ppuClock c p).sprovf = false
      ∧ (ppuClock c p).sprList = [])

/-- With both render-enable bits 0 the pipeline leaves the VRAM address alone, at every position (`63`
R562, decision D41). -/
def Obligations.RenderingOffLeavesTheAddress : Prop :=
  ∀ (c : Cartridge) (p : Ppu), p.mask.toNat / 8 % 4 = 0 → (ppuClock c p).v = p.v

/-- Sprite evaluation lists, in ascending order, the first eight objects whose Y byte `y` has
`y ≤ s < y + h`; a ninth sets the overflow flag, which is never cleared here. It runs at cycle 257 of the
visible scanlines; but for the clearing at the pre-render scanline no other clock changes the list or the
flag (`63` R561, R595, R596, R567; the reading of "next scanline" is the spec's decision D57, that it runs
with rendering off too is D41, the cleared list D42). -/
def Obligations.SpriteEvaluation : Prop :=
  ∀ (p : Ppu) (s : Nat),
    let y := fun i : Fin 64 => (Memory.read p.oam (4 * i.val)).toNat
    let hit := fun i : Fin 64 => y i ≤ s ∧ s < y i + height p
    let q := spriteEval s p
    q.sprList.Pairwise (fun i j => i < j) ∧ q.sprList.length ≤ 8 ∧ (∀ i ∈ q.sprList, hit i)
      ∧ (∀ i, hit i → i ∉ q.sprList → q.sprList.length = 8 ∧ (∀ j ∈ q.sprList, j < i)
          ∧ q.sprovf = true)
      ∧ (q.sprovf = true → p.sprovf = true ∨ ∃ i, hit i ∧ i ∉ q.sprList)
      ∧ (p.sprovf = true → q.sprovf = true)
      ∧ ∀ c : Cartridge,
        let e := spriteEval p.scanline p
        let evaluates := 0 ≤ p.scanline ∧ p.scanline ≤ 239 ∧ p.cycle = 257
        let clears := p.scanline = -1 ∧ p.cycle = 1
        (ppuClock c p).sprList = (if evaluates then e.sprList else if clears then [] else p.sprList)
        ∧ (ppuClock c p).sprovf = (if evaluates then e.sprovf else if clears then false else p.sprovf)

/-- The frame buffer: a clock at a visible position writes exactly the entry of that position, with the low
six bits of the palette entry of the multiplexer's result, taken after the clock's own fetch step; any other
clock writes none; with rendering off the colour is the backdrop's (`63` R611, R612; `10` R53; that the
column is the cycle less one is the spec's decision D55, that a transparent result shows the backdrop D43,
the order within the clock D56). -/
def Obligations.OnePixelPerVisibleClock : Prop :=
  ∀ (c : Cartridge) (p : Ppu), p.frame.length = 240 →
    let q := ppuClock c p
    let colour := frameRead q.frame p.scanline.toNat (p.cycle - 1)
    let shown := muxPixel (bgPixel (atPixel c p)) (spritePixel c p p.scanline (p.cycle - 1))
    (¬ visible p → q.frame = p.frame)
    ∧ (visible p →
      (∀ row col, ¬ (row = p.scanline.toNat ∧ col = p.cycle - 1) →
        frameRead q.frame row col = frameRead p.frame row col)
      ∧ colour.toNat < 64
      ∧ colour.toNat = (ppuRead c p (pixelAddr shown)).toNat % 64
      ∧ (p.mask.toNat / 8 % 4 = 0 → colour.toNat = (Memory.read p.pal 0).toNat % 64))


/-- Pixel resolution. The multiplexer: background where the sprite is transparent, the sprite where the
background is transparent or the priority bit says in front, else background; a transparent result shows
entry 0. The sprite pixel: the first listed object that shows bits at the column supplies them, its palette,
its priority and whether it is object 0; with sprites disabled or no such object it is transparent. The
sprite-zero flag rises exactly at a visible position with both render-enable bits set where the background
and object 0 are both opaque, not in the leftmost eight columns unless both left-edge bits are set; it falls
only at cycle 1 of the pre-render scanline (`63` R600, R610, R611, R567; that a transparent result shows
entry 0 is the spec's decision D43, the column D55, a listed object outside its rows D58, no blanking by the
left-edge bits D53). -/
def Obligations.PixelResolution : Prop :=
  (∀ (bg : Pixel) (sp : SpritePixel),
    (bg.p = 0 → sp.px.p = 0 → (pixelAddr (muxPixel bg sp)).toNat = 0x3F00)
    ∧ (bg.p ≠ 0 → (sp.px.p = 0 ∨ sp.behind = true) →
      (pixelAddr (muxPixel bg sp)).toNat = 0x3F00 + bg.pal.toNat * 4 + bg.p.toNat)
    ∧ (sp.px.p ≠ 0 → (bg.p = 0 ∨ sp.behind = false) →
      (pixelAddr (muxPixel bg sp)).toNat = 0x3F00 + sp.px.pal.toNat * 4 + sp.px.p.toNat))
  ∧ (∀ (c : Cartridge) (p : Ppu) (s : Int) (col : Nat),
    let r := spritePixel c p s col
    (∀ pre i post, p.mask.toNat / 16 % 2 = 1 → p.sprList = pre ++ i :: post →
      (∀ j ∈ pre, objectBits c p s col j = 0) → objectBits c p s col i ≠ 0 →
      r.px.p.toNat = objectBits c p s col i ∧ r.px.pal.toNat = 4 + (objectByte p i 2).toNat % 4
        ∧ r.behind = decide ((objectByte p i 2).toNat / 32 % 2 = 1) ∧ r.zero = decide (i = 0))
    ∧ (p.mask.toNat / 16 % 2 = 0 ∨ (∀ i ∈ p.sprList, objectBits c p s col i = 0) →
      r.px.p = 0 ∧ r.px.pal = 0 ∧ r.behind = false ∧ r.zero = false))
  ∧ ∀ (c : Cartridge) (p : Ppu),
    let bg := bgPixel (atPixel c p)
    let sp := spritePixel c p p.scanline (p.cycle - 1)
    (visible p → bg.p ≠ 0 → sp.px.p ≠ 0 → sp.zero = true → p.mask.toNat / 8 % 4 = 3 →
      (p.mask.toNat / 2 % 4 = 3 ∨ 9 ≤ p.cycle) → (ppuClock c p).spr0hit = true)
    ∧ (p.spr0hit = false → (ppuClock c p).spr0hit = true →
      visible p ∧ bg.p ≠ 0 ∧ sp.px.p ≠ 0 ∧ sp.zero = true ∧ p.mask.toNat / 8 % 4 = 3
        ∧ (0 : Fin 64) ∈ p.sprList ∧ (p.mask.toNat / 2 % 4 = 3 ∨ 9 ≤ p.cycle))
    ∧ (p.spr0hit = true → (ppuClock c p).spr0hit = false → p.scanline = -1 ∧ p.cycle = 1)

/-! ## DMA and the master tick -/

/-- A write to 0x4014 requests a transfer and changes nothing else. A requested transfer, from any page,
takes exactly 512 slots when the first slot's master tick is odd and 513 when it is even, stays active until
the last of them, and leaves the CPU, RAM and the cartridge alone; from a page without device registers it
copies the 256 bytes to object memory, byte `k` to index `k` (`61` R470 to R474, R476; `90` C5; the split
into slots and the parity are the spec's decisions D31 and D33, the destination index, with the OAM address
neither used nor changed, D52). -/
def Obligations.DmaCopiesOnePage : Prop :=
  ∀ (s : State) (page : Byte) (m : Nat),
    let u := memWrite s 0x4014#16 page
    let n := if m % 2 = 1 then 512 else 513
    let t := dmaSlots n m u
    u = { s with
          dma := { page := page, offset := 0#8, align := true, active := true, data := s.dma.data } }
    ∧ (∀ k, k < n → (dmaSlots k m u).dma.active = true) ∧ t.dma.active = false
    ∧ t.ram = s.ram ∧ t.cart = s.cart ∧ t.a = s.a ∧ t.x = s.x ∧ t.y = s.y ∧ t.sp = s.sp ∧ t.pc = s.pc
    ∧ t.p = s.p ∧ t.cycles = s.cycles ∧ t.ppu.oamAddr = s.ppu.oamAddr
    ∧ (page.toNat < 0x20 ∨ 0x41 ≤ page.toNat →
      ∀ k, k < 256 → Memory.read t.ppu.oam k = busValue s (word (page.toNat * 256 + k)))

/-- Where the CPU stands still: on ticks that are no processor slot, and on every tick while a transfer is
active; with no request and no NMI such a step changes no CPU register, no cycle count, no RAM and no
cartridge (`64` R631; `61` R474; that a processor slot is master mod 3 = 0 is the spec's decision D20, what
is asked for is the request list of log 9). -/
def Obligations.CpuIsClockedOneTickInThree : Prop :=
  ∀ s : State, s.quiet → (s.master % 3 ≠ 0 ∨ s.dma.active = true) → ∃ t, step s = .next t
    ∧ t.a = s.a ∧ t.x = s.x ∧ t.y = s.y ∧ t.sp = s.sp ∧ t.pc = s.pc ∧ t.p = s.p
    ∧ t.cycles = s.cycles ∧ t.jammed = s.jammed ∧ t.ram = s.ram ∧ t.cart = s.cart
    ∧ t.master = s.master + 1

/-- The invariant holds after reset: the mode of every field, the memories in canonical form and inside
their sizes. It rests on the values logs 1, 2, 5 and 9 name for what the spec leaves open. -/
def Obligations.ResetHasTheInvariant : Prop := State.reset.Inv

/-- Every step from a state with the invariant that answers a next state keeps it: the always-set flag is
1 and break 0, at most 8 cycles remain, the picture processor stays on its grid with at most eight sprites
and no NMI request left over, every memory keeps its canonical form and its size (`10` R24, R25, R26, R36,
R37, R39, R51; `64` R636). -/
def Obligations.StepKeepsTheInvariant : Prop :=
  ∀ s t : State, s.Inv → step s = .next t → t.Inv

/-- Every step of the running machine answers a next state, whatever the state: no fault and no refusal
(`60` R400, R401, R402; `20` R61). That a Jammed CPU, and an interrupt that meets one, go on is the model's
choice, logs 5 and 6. -/
def Obligations.StepsAreSafe : Prop := ∀ s : State, Safe (step s)
end

