-- ==== Sys2Proof/Laws/Memory.lean ====
section
/-! SUPPORT. The laws of one memory: what a read returns after a write, that a write keeps the canonical
form and the size, that equal contents are equal lists. -/

namespace Sys2Proof.Machine

theorem Memory.read_cell_append (i j : Nat) (v : Byte) (m : Memory) (h : v = unlisted → Memory.read m i = v) :
    Memory.read (Memory.cell i v ++ m) j = if i = j then v else Memory.read m j := by
  unfold Memory.cell
  by_cases hv : v = unlisted
  · rw [if_pos hv, List.nil_append]
    by_cases hij : i = j
    · rw [if_pos hij, ← hij, h hv]
    · rw [if_neg hij]
  · rw [if_neg hv]; rfl

theorem Memory.read_filter_self (m : Memory) (i : Nat) :
    Memory.read (m.filter (fun c => decide (c.1 ≠ i))) i = unlisted := by
  induction m with
  | nil => rfl
  | cons c r ih =>
    by_cases h : c.1 = i
    · rw [List.filter_cons_of_neg (by simp [h])]; exact ih
    · rw [List.filter_cons_of_pos (by simp [h]), Memory.read, if_neg h]; exact ih

theorem Memory.read_filter_other (m : Memory) (i j : Nat) (h : i ≠ j) :
    Memory.read (m.filter (fun c => decide (c.1 ≠ i))) j = Memory.read m j := by
  induction m with
  | nil => rfl
  | cons c r ih =>
    by_cases hc : c.1 = i
    · rw [List.filter_cons_of_neg (by simp [hc]), ih, Memory.read, if_neg (fun e => h (hc ▸ e))]
    · rw [List.filter_cons_of_pos (by simp [hc]), Memory.read, Memory.read, ih]

/-- A read after a write: the byte written at its key, the old byte at every other key. -/
theorem Memory.read_write (m : Memory) (i j : Nat) (v : Byte) :
    Memory.read (Memory.write m i v) j = if i = j then v else Memory.read m j := by
  induction m with
  | nil =>
    have := Memory.read_cell_append i j v [] (fun h => h.symm)
    simpa [Memory.write] using this
  | cons c r ih =>
    obtain ⟨k, w⟩ := c
    rw [Memory.write]
    by_cases hk : k < i
    · rw [if_pos hk, Memory.read, Memory.read, ih]
      by_cases hij : i = j
      · subst hij; rw [if_neg (by omega), if_pos rfl, if_pos rfl]
      · rw [if_neg hij, if_neg hij]
    · rw [if_neg hk, Memory.read_cell_append _ _ _ _
        (fun h => by rw [Memory.read_filter_self]; exact h.symm)]
      by_cases hij : i = j
      · rw [if_pos hij, if_pos hij]
      · rw [if_neg hij, if_neg hij, Memory.read_filter_other _ _ _ hij]

@[simp] theorem Memory.read_write_same (m : Memory) (i : Nat) (v : Byte) :
    Memory.read (Memory.write m i v) i = v := by rw [Memory.read_write, if_pos rfl]

theorem Memory.read_write_other (m : Memory) (i j : Nat) (v : Byte) (h : i ≠ j) :
    Memory.read (Memory.write m i v) j = Memory.read m j := by rw [Memory.read_write, if_neg h]

/-! ### Canonical form and size -/

theorem Memory.mem_cell {i : Nat} {v : Byte} {c : Host.Cell} (h : c ∈ Memory.cell i v) :
    c = (i, v) ∧ v ≠ unlisted := by
  unfold Memory.cell at h
  split at h
  · simp at h
  · rename_i hv; exact ⟨by simpa using h, hv⟩

/-- Every entry after a write is the one written or an older one. -/
theorem Memory.mem_write {m : Memory} {i : Nat} {v : Byte} {c : Host.Cell}
    (h : c ∈ Memory.write m i v) : (c = (i, v) ∧ v ≠ unlisted) ∨ c ∈ m := by
  induction m with
  | nil => exact .inl (Memory.mem_cell h)
  | cons d r ih =>
    obtain ⟨k, w⟩ := d
    rw [Memory.write] at h
    split at h
    · rcases List.mem_cons.mp h with h | h
      · exact .inr (h ▸ List.mem_cons_self)
      · exact (ih h).imp id (List.mem_cons_of_mem _)
    · rcases List.mem_append.mp h with h | h
      · exact .inl (Memory.mem_cell h)
      · exact .inr (List.mem_filter.mp h).1

/-- A write inside the size keeps the size. -/
theorem Memory.within_write {n : Nat} {m : Memory} {i : Nat} {v : Byte} (hm : Memory.within n m)
    (hi : i < n) : Memory.within n (Memory.write m i v) := by
  intro c hc
  rcases Memory.mem_write hc with ⟨rfl, _⟩ | h
  · exact hi
  · exact hm c h

/-- A write keeps the canonical form. -/
theorem Memory.wf_write {m : Memory} (hm : Memory.wf m) (i : Nat) (v : Byte) :
    Memory.wf (Memory.write m i v) := by
  refine ⟨?_, fun c hc => ?_⟩
  · induction m with
    | nil =>
      unfold Memory.write Memory.cell
      split <;> simp
    | cons d r ih =>
      obtain ⟨k, w⟩ := d
      obtain ⟨hp, hv⟩ := hm
      rw [List.pairwise_cons] at hp
      have hr : Memory.wf r := ⟨hp.2, fun c hc => hv c (List.mem_cons_of_mem _ hc)⟩
      rw [Memory.write]
      split
      · rename_i hk
        refine List.pairwise_cons.mpr ⟨fun c hc => ?_, ih hr⟩
        rcases Memory.mem_write hc with ⟨rfl, _⟩ | h
        · exact hk
        · exact hp.1 c h
      · rename_i hk
        refine List.pairwise_append.mpr ⟨?_, ?_, ?_⟩
        · unfold Memory.cell; split <;> simp
        · exact (List.pairwise_cons.mpr hp).filter _
        · intro c hc e he
          obtain ⟨rfl, _⟩ := Memory.mem_cell hc
          obtain ⟨he, hne⟩ := List.mem_filter.mp he
          have hne : e.1 ≠ i := by simpa using hne
          have : k ≤ e.1 := by
            rcases List.mem_cons.mp he with rfl | h
            · exact le_refl _
            · exact le_of_lt (hp.1 e h)
          show i < e.1
          omega
  · rcases Memory.mem_write hc with ⟨rfl, h⟩ | h
    · exact h
    · exact hm.2 c h

theorem Memory.read_of_lt {m : Memory} {i : Nat} (h : ∀ c ∈ m, i < c.1) :
    Memory.read m i = unlisted := by
  induction m with
  | nil => rfl
  | cons c r ih =>
    rw [Memory.read, if_neg (fun e => by have := h c List.mem_cons_self; omega)]
    exact ih (fun d hd => h d (List.mem_cons_of_mem _ hd))

theorem Memory.wf_tail {c : Host.Cell} {r : Memory} (h : Memory.wf (c :: r)) : Memory.wf r :=
  ⟨(List.pairwise_cons.mp h.1).2, fun d hd => h.2 d (List.mem_cons_of_mem _ hd)⟩

/-- In canonical form, memories with equal contents are equal lists. -/
theorem Memory.ext {m n : Memory} (hm : Memory.wf m) (hn : Memory.wf n)
    (h : ∀ i, Memory.read m i = Memory.read n i) : m = n := by
  induction m generalizing n with
  | nil =>
    cases n with
    | nil => rfl
    | cons d r =>
      have := h d.1
      rw [Memory.read, Memory.read, if_pos rfl] at this
      exact absurd this.symm (hn.2 d List.mem_cons_self)
  | cons c q ih =>
    have hc := List.pairwise_cons.mp hm.1
    cases n with
    | nil =>
      have := h c.1
      rw [Memory.read, Memory.read, if_pos rfl] at this
      exact absurd this (hm.2 c List.mem_cons_self)
    | cons d r =>
      have hd := List.pairwise_cons.mp hn.1
      have hk : c.1 = d.1 := by
        rcases Nat.lt_trichotomy c.1 d.1 with hlt | heq | hlt
        · have := h c.1
          rw [Memory.read_of_lt (m := d :: r) (fun e he => by
            rcases List.mem_cons.mp he with rfl | he
            · exact hlt
            · exact hlt.trans (hd.1 e he)), Memory.read, if_pos rfl] at this
          exact absurd this (hm.2 c List.mem_cons_self)
        · exact heq
        · have := h d.1
          rw [Memory.read_of_lt (m := c :: q) (fun e he => by
            rcases List.mem_cons.mp he with rfl | he
            · exact hlt
            · exact hlt.trans (hc.1 e he)), Memory.read, if_pos rfl] at this
          exact absurd this.symm (hn.2 d List.mem_cons_self)
      have hv : c.2 = d.2 := by
        have := h c.1
        rwa [Memory.read, Memory.read, if_pos rfl, if_pos hk.symm] at this
      have hq : q = r := by
        refine ih (Memory.wf_tail hm) (Memory.wf_tail hn) (fun i => ?_)
        by_cases hi : c.1 = i
        · rw [Memory.read_of_lt (fun e he => hi ▸ hc.1 e he),
            Memory.read_of_lt (fun e he => hi ▸ hk ▸ hd.1 e he)]
        · have := h i
          rwa [Memory.read, Memory.read, if_neg hi, if_neg (fun e => hi (hk.trans e))] at this
      rw [hq, Prod.ext hk hv]

/-- Writing back the byte that is there changes nothing. -/
theorem Memory.write_read {m : Memory} (hm : Memory.wf m) (i : Nat) :
    Memory.write m i (Memory.read m i) = m :=
  Memory.ext (Memory.wf_write hm _ _) hm (fun j => by
    rw [Memory.read_write]; split
    · rename_i h; rw [h]
    · rfl)

end Sys2Proof.Machine
end

