-- ==== Sys2Proof/Laws/State.lean ====
section
/-! SUPPORT. One lemma per field per update of `State`, and the state after reset as the rules of reset
give it. -/

namespace Sys2Proof.Machine

variable (s : State)

/-! `setA` -/

@[simp] theorem State.setA_a (v : Byte) : (s.setA v).a = v := rfl
@[simp] theorem State.setA_x (v : Byte) : (s.setA v).x = s.x := rfl
@[simp] theorem State.setA_y (v : Byte) : (s.setA v).y = s.y := rfl
@[simp] theorem State.setA_sp (v : Byte) : (s.setA v).sp = s.sp := rfl
@[simp] theorem State.setA_pc (v : Byte) : (s.setA v).pc = s.pc := rfl
@[simp] theorem State.setA_p (v : Byte) : (s.setA v).p = s.p := rfl
@[simp] theorem State.setA_cycles (v : Byte) : (s.setA v).cycles = s.cycles := rfl
@[simp] theorem State.setA_jammed (v : Byte) : (s.setA v).jammed = s.jammed := rfl
@[simp] theorem State.setA_ram (v : Byte) : (s.setA v).ram = s.ram := rfl
@[simp] theorem State.setA_dma (v : Byte) : (s.setA v).dma = s.dma := rfl
@[simp] theorem State.setA_master (v : Byte) : (s.setA v).master = s.master := rfl
@[simp] theorem State.setA_cart (v : Byte) : (s.setA v).cart = s.cart := rfl
@[simp] theorem State.setA_ppu (v : Byte) : (s.setA v).ppu = s.ppu := rfl
@[simp] theorem State.setA_requests (v : Byte) : (s.setA v).requests = s.requests := rfl
@[simp] theorem State.setA_draws (v : Byte) : (s.setA v).draws = s.draws := rfl

/-! `setX` -/

@[simp] theorem State.setX_a (v : Byte) : (s.setX v).a = s.a := rfl
@[simp] theorem State.setX_x (v : Byte) : (s.setX v).x = v := rfl
@[simp] theorem State.setX_y (v : Byte) : (s.setX v).y = s.y := rfl
@[simp] theorem State.setX_sp (v : Byte) : (s.setX v).sp = s.sp := rfl
@[simp] theorem State.setX_pc (v : Byte) : (s.setX v).pc = s.pc := rfl
@[simp] theorem State.setX_p (v : Byte) : (s.setX v).p = s.p := rfl
@[simp] theorem State.setX_cycles (v : Byte) : (s.setX v).cycles = s.cycles := rfl
@[simp] theorem State.setX_jammed (v : Byte) : (s.setX v).jammed = s.jammed := rfl
@[simp] theorem State.setX_ram (v : Byte) : (s.setX v).ram = s.ram := rfl
@[simp] theorem State.setX_dma (v : Byte) : (s.setX v).dma = s.dma := rfl
@[simp] theorem State.setX_master (v : Byte) : (s.setX v).master = s.master := rfl
@[simp] theorem State.setX_cart (v : Byte) : (s.setX v).cart = s.cart := rfl
@[simp] theorem State.setX_ppu (v : Byte) : (s.setX v).ppu = s.ppu := rfl
@[simp] theorem State.setX_requests (v : Byte) : (s.setX v).requests = s.requests := rfl
@[simp] theorem State.setX_draws (v : Byte) : (s.setX v).draws = s.draws := rfl

/-! `setY` -/

@[simp] theorem State.setY_a (v : Byte) : (s.setY v).a = s.a := rfl
@[simp] theorem State.setY_x (v : Byte) : (s.setY v).x = s.x := rfl
@[simp] theorem State.setY_y (v : Byte) : (s.setY v).y = v := rfl
@[simp] theorem State.setY_sp (v : Byte) : (s.setY v).sp = s.sp := rfl
@[simp] theorem State.setY_pc (v : Byte) : (s.setY v).pc = s.pc := rfl
@[simp] theorem State.setY_p (v : Byte) : (s.setY v).p = s.p := rfl
@[simp] theorem State.setY_cycles (v : Byte) : (s.setY v).cycles = s.cycles := rfl
@[simp] theorem State.setY_jammed (v : Byte) : (s.setY v).jammed = s.jammed := rfl
@[simp] theorem State.setY_ram (v : Byte) : (s.setY v).ram = s.ram := rfl
@[simp] theorem State.setY_dma (v : Byte) : (s.setY v).dma = s.dma := rfl
@[simp] theorem State.setY_master (v : Byte) : (s.setY v).master = s.master := rfl
@[simp] theorem State.setY_cart (v : Byte) : (s.setY v).cart = s.cart := rfl
@[simp] theorem State.setY_ppu (v : Byte) : (s.setY v).ppu = s.ppu := rfl
@[simp] theorem State.setY_requests (v : Byte) : (s.setY v).requests = s.requests := rfl
@[simp] theorem State.setY_draws (v : Byte) : (s.setY v).draws = s.draws := rfl

/-! `setSp` -/

@[simp] theorem State.setSp_a (v : Byte) : (s.setSp v).a = s.a := rfl
@[simp] theorem State.setSp_x (v : Byte) : (s.setSp v).x = s.x := rfl
@[simp] theorem State.setSp_y (v : Byte) : (s.setSp v).y = s.y := rfl
@[simp] theorem State.setSp_sp (v : Byte) : (s.setSp v).sp = v := rfl
@[simp] theorem State.setSp_pc (v : Byte) : (s.setSp v).pc = s.pc := rfl
@[simp] theorem State.setSp_p (v : Byte) : (s.setSp v).p = s.p := rfl
@[simp] theorem State.setSp_cycles (v : Byte) : (s.setSp v).cycles = s.cycles := rfl
@[simp] theorem State.setSp_jammed (v : Byte) : (s.setSp v).jammed = s.jammed := rfl
@[simp] theorem State.setSp_ram (v : Byte) : (s.setSp v).ram = s.ram := rfl
@[simp] theorem State.setSp_dma (v : Byte) : (s.setSp v).dma = s.dma := rfl
@[simp] theorem State.setSp_master (v : Byte) : (s.setSp v).master = s.master := rfl
@[simp] theorem State.setSp_cart (v : Byte) : (s.setSp v).cart = s.cart := rfl
@[simp] theorem State.setSp_ppu (v : Byte) : (s.setSp v).ppu = s.ppu := rfl
@[simp] theorem State.setSp_requests (v : Byte) : (s.setSp v).requests = s.requests := rfl
@[simp] theorem State.setSp_draws (v : Byte) : (s.setSp v).draws = s.draws := rfl

/-! `setPc` -/

@[simp] theorem State.setPc_a (v : Addr) : (s.setPc v).a = s.a := rfl
@[simp] theorem State.setPc_x (v : Addr) : (s.setPc v).x = s.x := rfl
@[simp] theorem State.setPc_y (v : Addr) : (s.setPc v).y = s.y := rfl
@[simp] theorem State.setPc_sp (v : Addr) : (s.setPc v).sp = s.sp := rfl
@[simp] theorem State.setPc_pc (v : Addr) : (s.setPc v).pc = v := rfl
@[simp] theorem State.setPc_p (v : Addr) : (s.setPc v).p = s.p := rfl
@[simp] theorem State.setPc_cycles (v : Addr) : (s.setPc v).cycles = s.cycles := rfl
@[simp] theorem State.setPc_jammed (v : Addr) : (s.setPc v).jammed = s.jammed := rfl
@[simp] theorem State.setPc_ram (v : Addr) : (s.setPc v).ram = s.ram := rfl
@[simp] theorem State.setPc_dma (v : Addr) : (s.setPc v).dma = s.dma := rfl
@[simp] theorem State.setPc_master (v : Addr) : (s.setPc v).master = s.master := rfl
@[simp] theorem State.setPc_cart (v : Addr) : (s.setPc v).cart = s.cart := rfl
@[simp] theorem State.setPc_ppu (v : Addr) : (s.setPc v).ppu = s.ppu := rfl
@[simp] theorem State.setPc_requests (v : Addr) : (s.setPc v).requests = s.requests := rfl
@[simp] theorem State.setPc_draws (v : Addr) : (s.setPc v).draws = s.draws := rfl

/-! `setP` -/

@[simp] theorem State.setP_a (v : Byte) : (s.setP v).a = s.a := rfl
@[simp] theorem State.setP_x (v : Byte) : (s.setP v).x = s.x := rfl
@[simp] theorem State.setP_y (v : Byte) : (s.setP v).y = s.y := rfl
@[simp] theorem State.setP_sp (v : Byte) : (s.setP v).sp = s.sp := rfl
@[simp] theorem State.setP_pc (v : Byte) : (s.setP v).pc = s.pc := rfl
@[simp] theorem State.setP_p (v : Byte) : (s.setP v).p = v := rfl
@[simp] theorem State.setP_cycles (v : Byte) : (s.setP v).cycles = s.cycles := rfl
@[simp] theorem State.setP_jammed (v : Byte) : (s.setP v).jammed = s.jammed := rfl
@[simp] theorem State.setP_ram (v : Byte) : (s.setP v).ram = s.ram := rfl
@[simp] theorem State.setP_dma (v : Byte) : (s.setP v).dma = s.dma := rfl
@[simp] theorem State.setP_master (v : Byte) : (s.setP v).master = s.master := rfl
@[simp] theorem State.setP_cart (v : Byte) : (s.setP v).cart = s.cart := rfl
@[simp] theorem State.setP_ppu (v : Byte) : (s.setP v).ppu = s.ppu := rfl
@[simp] theorem State.setP_requests (v : Byte) : (s.setP v).requests = s.requests := rfl
@[simp] theorem State.setP_draws (v : Byte) : (s.setP v).draws = s.draws := rfl

/-! `setCycles` -/

@[simp] theorem State.setCycles_a (v : Nat) : (s.setCycles v).a = s.a := rfl
@[simp] theorem State.setCycles_x (v : Nat) : (s.setCycles v).x = s.x := rfl
@[simp] theorem State.setCycles_y (v : Nat) : (s.setCycles v).y = s.y := rfl
@[simp] theorem State.setCycles_sp (v : Nat) : (s.setCycles v).sp = s.sp := rfl
@[simp] theorem State.setCycles_pc (v : Nat) : (s.setCycles v).pc = s.pc := rfl
@[simp] theorem State.setCycles_p (v : Nat) : (s.setCycles v).p = s.p := rfl
@[simp] theorem State.setCycles_cycles (v : Nat) : (s.setCycles v).cycles = v := rfl
@[simp] theorem State.setCycles_jammed (v : Nat) : (s.setCycles v).jammed = s.jammed := rfl
@[simp] theorem State.setCycles_ram (v : Nat) : (s.setCycles v).ram = s.ram := rfl
@[simp] theorem State.setCycles_dma (v : Nat) : (s.setCycles v).dma = s.dma := rfl
@[simp] theorem State.setCycles_master (v : Nat) : (s.setCycles v).master = s.master := rfl
@[simp] theorem State.setCycles_cart (v : Nat) : (s.setCycles v).cart = s.cart := rfl
@[simp] theorem State.setCycles_ppu (v : Nat) : (s.setCycles v).ppu = s.ppu := rfl
@[simp] theorem State.setCycles_requests (v : Nat) : (s.setCycles v).requests = s.requests := rfl
@[simp] theorem State.setCycles_draws (v : Nat) : (s.setCycles v).draws = s.draws := rfl

/-! `setJammed` -/

@[simp] theorem State.setJammed_a (v : Bool) : (s.setJammed v).a = s.a := rfl
@[simp] theorem State.setJammed_x (v : Bool) : (s.setJammed v).x = s.x := rfl
@[simp] theorem State.setJammed_y (v : Bool) : (s.setJammed v).y = s.y := rfl
@[simp] theorem State.setJammed_sp (v : Bool) : (s.setJammed v).sp = s.sp := rfl
@[simp] theorem State.setJammed_pc (v : Bool) : (s.setJammed v).pc = s.pc := rfl
@[simp] theorem State.setJammed_p (v : Bool) : (s.setJammed v).p = s.p := rfl
@[simp] theorem State.setJammed_cycles (v : Bool) : (s.setJammed v).cycles = s.cycles := rfl
@[simp] theorem State.setJammed_jammed (v : Bool) : (s.setJammed v).jammed = v := rfl
@[simp] theorem State.setJammed_ram (v : Bool) : (s.setJammed v).ram = s.ram := rfl
@[simp] theorem State.setJammed_dma (v : Bool) : (s.setJammed v).dma = s.dma := rfl
@[simp] theorem State.setJammed_master (v : Bool) : (s.setJammed v).master = s.master := rfl
@[simp] theorem State.setJammed_cart (v : Bool) : (s.setJammed v).cart = s.cart := rfl
@[simp] theorem State.setJammed_ppu (v : Bool) : (s.setJammed v).ppu = s.ppu := rfl
@[simp] theorem State.setJammed_requests (v : Bool) : (s.setJammed v).requests = s.requests := rfl
@[simp] theorem State.setJammed_draws (v : Bool) : (s.setJammed v).draws = s.draws := rfl

/-! `setRam` -/

@[simp] theorem State.setRam_a (v : Memory) : (s.setRam v).a = s.a := rfl
@[simp] theorem State.setRam_x (v : Memory) : (s.setRam v).x = s.x := rfl
@[simp] theorem State.setRam_y (v : Memory) : (s.setRam v).y = s.y := rfl
@[simp] theorem State.setRam_sp (v : Memory) : (s.setRam v).sp = s.sp := rfl
@[simp] theorem State.setRam_pc (v : Memory) : (s.setRam v).pc = s.pc := rfl
@[simp] theorem State.setRam_p (v : Memory) : (s.setRam v).p = s.p := rfl
@[simp] theorem State.setRam_cycles (v : Memory) : (s.setRam v).cycles = s.cycles := rfl
@[simp] theorem State.setRam_jammed (v : Memory) : (s.setRam v).jammed = s.jammed := rfl
@[simp] theorem State.setRam_ram (v : Memory) : (s.setRam v).ram = v := rfl
@[simp] theorem State.setRam_dma (v : Memory) : (s.setRam v).dma = s.dma := rfl
@[simp] theorem State.setRam_master (v : Memory) : (s.setRam v).master = s.master := rfl
@[simp] theorem State.setRam_cart (v : Memory) : (s.setRam v).cart = s.cart := rfl
@[simp] theorem State.setRam_ppu (v : Memory) : (s.setRam v).ppu = s.ppu := rfl
@[simp] theorem State.setRam_requests (v : Memory) : (s.setRam v).requests = s.requests := rfl
@[simp] theorem State.setRam_draws (v : Memory) : (s.setRam v).draws = s.draws := rfl

/-! `setDma` -/

@[simp] theorem State.setDma_a (v : Dma) : (s.setDma v).a = s.a := rfl
@[simp] theorem State.setDma_x (v : Dma) : (s.setDma v).x = s.x := rfl
@[simp] theorem State.setDma_y (v : Dma) : (s.setDma v).y = s.y := rfl
@[simp] theorem State.setDma_sp (v : Dma) : (s.setDma v).sp = s.sp := rfl
@[simp] theorem State.setDma_pc (v : Dma) : (s.setDma v).pc = s.pc := rfl
@[simp] theorem State.setDma_p (v : Dma) : (s.setDma v).p = s.p := rfl
@[simp] theorem State.setDma_cycles (v : Dma) : (s.setDma v).cycles = s.cycles := rfl
@[simp] theorem State.setDma_jammed (v : Dma) : (s.setDma v).jammed = s.jammed := rfl
@[simp] theorem State.setDma_ram (v : Dma) : (s.setDma v).ram = s.ram := rfl
@[simp] theorem State.setDma_dma (v : Dma) : (s.setDma v).dma = v := rfl
@[simp] theorem State.setDma_master (v : Dma) : (s.setDma v).master = s.master := rfl
@[simp] theorem State.setDma_cart (v : Dma) : (s.setDma v).cart = s.cart := rfl
@[simp] theorem State.setDma_ppu (v : Dma) : (s.setDma v).ppu = s.ppu := rfl
@[simp] theorem State.setDma_requests (v : Dma) : (s.setDma v).requests = s.requests := rfl
@[simp] theorem State.setDma_draws (v : Dma) : (s.setDma v).draws = s.draws := rfl

/-! `setMaster` -/

@[simp] theorem State.setMaster_a (v : Nat) : (s.setMaster v).a = s.a := rfl
@[simp] theorem State.setMaster_x (v : Nat) : (s.setMaster v).x = s.x := rfl
@[simp] theorem State.setMaster_y (v : Nat) : (s.setMaster v).y = s.y := rfl
@[simp] theorem State.setMaster_sp (v : Nat) : (s.setMaster v).sp = s.sp := rfl
@[simp] theorem State.setMaster_pc (v : Nat) : (s.setMaster v).pc = s.pc := rfl
@[simp] theorem State.setMaster_p (v : Nat) : (s.setMaster v).p = s.p := rfl
@[simp] theorem State.setMaster_cycles (v : Nat) : (s.setMaster v).cycles = s.cycles := rfl
@[simp] theorem State.setMaster_jammed (v : Nat) : (s.setMaster v).jammed = s.jammed := rfl
@[simp] theorem State.setMaster_ram (v : Nat) : (s.setMaster v).ram = s.ram := rfl
@[simp] theorem State.setMaster_dma (v : Nat) : (s.setMaster v).dma = s.dma := rfl
@[simp] theorem State.setMaster_master (v : Nat) : (s.setMaster v).master = v := rfl
@[simp] theorem State.setMaster_cart (v : Nat) : (s.setMaster v).cart = s.cart := rfl
@[simp] theorem State.setMaster_ppu (v : Nat) : (s.setMaster v).ppu = s.ppu := rfl
@[simp] theorem State.setMaster_requests (v : Nat) : (s.setMaster v).requests = s.requests := rfl
@[simp] theorem State.setMaster_draws (v : Nat) : (s.setMaster v).draws = s.draws := rfl

/-! `setCart` -/

@[simp] theorem State.setCart_a (v : Cartridge) : (s.setCart v).a = s.a := rfl
@[simp] theorem State.setCart_x (v : Cartridge) : (s.setCart v).x = s.x := rfl
@[simp] theorem State.setCart_y (v : Cartridge) : (s.setCart v).y = s.y := rfl
@[simp] theorem State.setCart_sp (v : Cartridge) : (s.setCart v).sp = s.sp := rfl
@[simp] theorem State.setCart_pc (v : Cartridge) : (s.setCart v).pc = s.pc := rfl
@[simp] theorem State.setCart_p (v : Cartridge) : (s.setCart v).p = s.p := rfl
@[simp] theorem State.setCart_cycles (v : Cartridge) : (s.setCart v).cycles = s.cycles := rfl
@[simp] theorem State.setCart_jammed (v : Cartridge) : (s.setCart v).jammed = s.jammed := rfl
@[simp] theorem State.setCart_ram (v : Cartridge) : (s.setCart v).ram = s.ram := rfl
@[simp] theorem State.setCart_dma (v : Cartridge) : (s.setCart v).dma = s.dma := rfl
@[simp] theorem State.setCart_master (v : Cartridge) : (s.setCart v).master = s.master := rfl
@[simp] theorem State.setCart_cart (v : Cartridge) : (s.setCart v).cart = v := rfl
@[simp] theorem State.setCart_ppu (v : Cartridge) : (s.setCart v).ppu = s.ppu := rfl
@[simp] theorem State.setCart_requests (v : Cartridge) : (s.setCart v).requests = s.requests := rfl
@[simp] theorem State.setCart_draws (v : Cartridge) : (s.setCart v).draws = s.draws := rfl

/-! `setPpu` -/

@[simp] theorem State.setPpu_a (v : Ppu) : (s.setPpu v).a = s.a := rfl
@[simp] theorem State.setPpu_x (v : Ppu) : (s.setPpu v).x = s.x := rfl
@[simp] theorem State.setPpu_y (v : Ppu) : (s.setPpu v).y = s.y := rfl
@[simp] theorem State.setPpu_sp (v : Ppu) : (s.setPpu v).sp = s.sp := rfl
@[simp] theorem State.setPpu_pc (v : Ppu) : (s.setPpu v).pc = s.pc := rfl
@[simp] theorem State.setPpu_p (v : Ppu) : (s.setPpu v).p = s.p := rfl
@[simp] theorem State.setPpu_cycles (v : Ppu) : (s.setPpu v).cycles = s.cycles := rfl
@[simp] theorem State.setPpu_jammed (v : Ppu) : (s.setPpu v).jammed = s.jammed := rfl
@[simp] theorem State.setPpu_ram (v : Ppu) : (s.setPpu v).ram = s.ram := rfl
@[simp] theorem State.setPpu_dma (v : Ppu) : (s.setPpu v).dma = s.dma := rfl
@[simp] theorem State.setPpu_master (v : Ppu) : (s.setPpu v).master = s.master := rfl
@[simp] theorem State.setPpu_cart (v : Ppu) : (s.setPpu v).cart = s.cart := rfl
@[simp] theorem State.setPpu_ppu (v : Ppu) : (s.setPpu v).ppu = v := rfl
@[simp] theorem State.setPpu_requests (v : Ppu) : (s.setPpu v).requests = s.requests := rfl
@[simp] theorem State.setPpu_draws (v : Ppu) : (s.setPpu v).draws = s.draws := rfl

/-! `setRequests` -/

@[simp] theorem State.setRequests_a (v : List Request) : (s.setRequests v).a = s.a := rfl
@[simp] theorem State.setRequests_x (v : List Request) : (s.setRequests v).x = s.x := rfl
@[simp] theorem State.setRequests_y (v : List Request) : (s.setRequests v).y = s.y := rfl
@[simp] theorem State.setRequests_sp (v : List Request) : (s.setRequests v).sp = s.sp := rfl
@[simp] theorem State.setRequests_pc (v : List Request) : (s.setRequests v).pc = s.pc := rfl
@[simp] theorem State.setRequests_p (v : List Request) : (s.setRequests v).p = s.p := rfl
@[simp] theorem State.setRequests_cycles (v : List Request) : (s.setRequests v).cycles = s.cycles := rfl
@[simp] theorem State.setRequests_jammed (v : List Request) : (s.setRequests v).jammed = s.jammed := rfl
@[simp] theorem State.setRequests_ram (v : List Request) : (s.setRequests v).ram = s.ram := rfl
@[simp] theorem State.setRequests_dma (v : List Request) : (s.setRequests v).dma = s.dma := rfl
@[simp] theorem State.setRequests_master (v : List Request) : (s.setRequests v).master = s.master := rfl
@[simp] theorem State.setRequests_cart (v : List Request) : (s.setRequests v).cart = s.cart := rfl
@[simp] theorem State.setRequests_ppu (v : List Request) : (s.setRequests v).ppu = s.ppu := rfl
@[simp] theorem State.setRequests_requests (v : List Request) : (s.setRequests v).requests = v := rfl
@[simp] theorem State.setRequests_draws (v : List Request) : (s.setRequests v).draws = s.draws := rfl

/-! `setDraws` -/

@[simp] theorem State.setDraws_a (v : Nat) : (s.setDraws v).a = s.a := rfl
@[simp] theorem State.setDraws_x (v : Nat) : (s.setDraws v).x = s.x := rfl
@[simp] theorem State.setDraws_y (v : Nat) : (s.setDraws v).y = s.y := rfl
@[simp] theorem State.setDraws_sp (v : Nat) : (s.setDraws v).sp = s.sp := rfl
@[simp] theorem State.setDraws_pc (v : Nat) : (s.setDraws v).pc = s.pc := rfl
@[simp] theorem State.setDraws_p (v : Nat) : (s.setDraws v).p = s.p := rfl
@[simp] theorem State.setDraws_cycles (v : Nat) : (s.setDraws v).cycles = s.cycles := rfl
@[simp] theorem State.setDraws_jammed (v : Nat) : (s.setDraws v).jammed = s.jammed := rfl
@[simp] theorem State.setDraws_ram (v : Nat) : (s.setDraws v).ram = s.ram := rfl
@[simp] theorem State.setDraws_dma (v : Nat) : (s.setDraws v).dma = s.dma := rfl
@[simp] theorem State.setDraws_master (v : Nat) : (s.setDraws v).master = s.master := rfl
@[simp] theorem State.setDraws_cart (v : Nat) : (s.setDraws v).cart = s.cart := rfl
@[simp] theorem State.setDraws_ppu (v : Nat) : (s.setDraws v).ppu = s.ppu := rfl
@[simp] theorem State.setDraws_requests (v : Nat) : (s.setDraws v).requests = s.requests := rfl
@[simp] theorem State.setDraws_draws (v : Nat) : (s.setDraws v).draws = v := rfl

/-! `setFlagTo` -/

@[simp] theorem State.setFlagTo_a (f : StatusFlag) (b : Bool) : (s.setFlagTo f b).a = s.a := rfl
@[simp] theorem State.setFlagTo_x (f : StatusFlag) (b : Bool) : (s.setFlagTo f b).x = s.x := rfl
@[simp] theorem State.setFlagTo_y (f : StatusFlag) (b : Bool) : (s.setFlagTo f b).y = s.y := rfl
@[simp] theorem State.setFlagTo_sp (f : StatusFlag) (b : Bool) : (s.setFlagTo f b).sp = s.sp := rfl
@[simp] theorem State.setFlagTo_pc (f : StatusFlag) (b : Bool) : (s.setFlagTo f b).pc = s.pc := rfl
@[simp] theorem State.setFlagTo_p (f : StatusFlag) (b : Bool) : (s.setFlagTo f b).p = setFlag s.p f b := rfl
@[simp] theorem State.setFlagTo_cycles (f : StatusFlag) (b : Bool) : (s.setFlagTo f b).cycles = s.cycles := rfl
@[simp] theorem State.setFlagTo_jammed (f : StatusFlag) (b : Bool) : (s.setFlagTo f b).jammed = s.jammed := rfl
@[simp] theorem State.setFlagTo_ram (f : StatusFlag) (b : Bool) : (s.setFlagTo f b).ram = s.ram := rfl
@[simp] theorem State.setFlagTo_dma (f : StatusFlag) (b : Bool) : (s.setFlagTo f b).dma = s.dma := rfl
@[simp] theorem State.setFlagTo_master (f : StatusFlag) (b : Bool) : (s.setFlagTo f b).master = s.master := rfl
@[simp] theorem State.setFlagTo_cart (f : StatusFlag) (b : Bool) : (s.setFlagTo f b).cart = s.cart := rfl
@[simp] theorem State.setFlagTo_ppu (f : StatusFlag) (b : Bool) : (s.setFlagTo f b).ppu = s.ppu := rfl
@[simp] theorem State.setFlagTo_requests (f : StatusFlag) (b : Bool) : (s.setFlagTo f b).requests = s.requests := rfl
@[simp] theorem State.setFlagTo_draws (f : StatusFlag) (b : Bool) : (s.setFlagTo f b).draws = s.draws := rfl

/-! `setZN` -/

@[simp] theorem State.setZN_a (v : Byte) : (s.setZN v).a = s.a := rfl
@[simp] theorem State.setZN_x (v : Byte) : (s.setZN v).x = s.x := rfl
@[simp] theorem State.setZN_y (v : Byte) : (s.setZN v).y = s.y := rfl
@[simp] theorem State.setZN_sp (v : Byte) : (s.setZN v).sp = s.sp := rfl
@[simp] theorem State.setZN_pc (v : Byte) : (s.setZN v).pc = s.pc := rfl
@[simp] theorem State.setZN_p (v : Byte) : (s.setZN v).p = Machine.setZN v s.p := rfl
@[simp] theorem State.setZN_cycles (v : Byte) : (s.setZN v).cycles = s.cycles := rfl
@[simp] theorem State.setZN_jammed (v : Byte) : (s.setZN v).jammed = s.jammed := rfl
@[simp] theorem State.setZN_ram (v : Byte) : (s.setZN v).ram = s.ram := rfl
@[simp] theorem State.setZN_dma (v : Byte) : (s.setZN v).dma = s.dma := rfl
@[simp] theorem State.setZN_master (v : Byte) : (s.setZN v).master = s.master := rfl
@[simp] theorem State.setZN_cart (v : Byte) : (s.setZN v).cart = s.cart := rfl
@[simp] theorem State.setZN_ppu (v : Byte) : (s.setZN v).ppu = s.ppu := rfl
@[simp] theorem State.setZN_requests (v : Byte) : (s.setZN v).requests = s.requests := rfl
@[simp] theorem State.setZN_draws (v : Byte) : (s.setZN v).draws = s.draws := rfl

/-- A state is its fields: two states with the same fields are equal. -/
theorem State.ext_fields {s t : State} (ha : s.a = t.a) (hx : s.x = t.x) (hy : s.y = t.y)
    (hsp : s.sp = t.sp) (hpc : s.pc = t.pc) (hp : s.p = t.p) (hc : s.cycles = t.cycles)
    (hj : s.jammed = t.jammed) (hr : s.ram = t.ram) (hd : s.dma = t.dma) (hm : s.master = t.master)
    (hk : s.cart = t.cart) (hg : s.ppu = t.ppu) (hq : s.requests = t.requests)
    (hw : s.draws = t.draws) : s = t := by
  cases s; cases t; simp_all

/-- `State.reset` is what `SystemReset()` leaves of the machine as constructed around the blank
cartridge with empty memories (`64` R640, R641; `70` R660). -/
theorem State.reset_eq_systemReset :
    State.reset = systemReset (constructed Cartridge.blank [] [] [] [] []) := rfl

end Sys2Proof.Machine
end

