-- ==== Sys2Proof/Laws/Bus.lean ====
section
/-! SUPPORT. The CPU bus and the stack: which fields a read or a write can change, what an access below
0x2000 or at 0x4020 and above is, pushes and pulls, byte order. -/

namespace Sys2Proof

theorem toNat_wordOf (hi lo : Byte) : (wordOf hi lo).toNat = hi.toNat * 256 + lo.toNat := by
  unfold wordOf
  have := lo.isLt
  rw [BitVec.toNat_append, ← Nat.shiftLeft_add_eq_or_of_lt (by omega), Nat.shiftLeft_eq]

theorem toNat_loByte (w : Addr) : (loByte w).toNat = w.toNat % 256 := by
  simp [loByte, BitVec.extractLsb'_toNat]

theorem toNat_hiByte (w : Addr) : (hiByte w).toNat = w.toNat / 256 := by
  have := w.isLt
  simp [hiByte, BitVec.extractLsb'_toNat, Nat.shiftRight_eq_div_pow]
  omega

@[simp] theorem loByte_wordOf (hi lo : Byte) : loByte (wordOf hi lo) = lo := by
  have := lo.isLt
  apply BitVec.eq_of_toNat_eq; rw [toNat_loByte, toNat_wordOf]; omega

@[simp] theorem hiByte_wordOf (hi lo : Byte) : hiByte (wordOf hi lo) = hi := by
  have := lo.isLt
  apply BitVec.eq_of_toNat_eq; rw [toNat_hiByte, toNat_wordOf]; omega

/-- A word is its two bytes. -/
@[simp] theorem wordOf_hiByte_loByte (w : Addr) : wordOf (hiByte w) (loByte w) = w := by
  apply BitVec.eq_of_toNat_eq; rw [toNat_wordOf, toNat_hiByte, toNat_loByte]; omega

end Sys2Proof

namespace Sys2Proof.Machine

variable (s : State) (a : Addr) (v : Byte)

/-! ### What a picture-processor register access can change -/

@[simp] theorem ppuRegReadEffect_a (n : BitVec 3) : (ppuRegReadEffect s n).a = s.a := by
  unfold ppuRegReadEffect statusEffect dataReadEffect; split <;> try split
  all_goals rfl

@[simp] theorem ppuRegReadEffect_x (n : BitVec 3) : (ppuRegReadEffect s n).x = s.x := by
  unfold ppuRegReadEffect statusEffect dataReadEffect; split <;> try split
  all_goals rfl

@[simp] theorem ppuRegReadEffect_y (n : BitVec 3) : (ppuRegReadEffect s n).y = s.y := by
  unfold ppuRegReadEffect statusEffect dataReadEffect; split <;> try split
  all_goals rfl

@[simp] theorem ppuRegReadEffect_sp (n : BitVec 3) : (ppuRegReadEffect s n).sp = s.sp := by
  unfold ppuRegReadEffect statusEffect dataReadEffect; split <;> try split
  all_goals rfl

@[simp] theorem ppuRegReadEffect_pc (n : BitVec 3) : (ppuRegReadEffect s n).pc = s.pc := by
  unfold ppuRegReadEffect statusEffect dataReadEffect; split <;> try split
  all_goals rfl

@[simp] theorem ppuRegReadEffect_p (n : BitVec 3) : (ppuRegReadEffect s n).p = s.p := by
  unfold ppuRegReadEffect statusEffect dataReadEffect; split <;> try split
  all_goals rfl

@[simp] theorem ppuRegReadEffect_cycles (n : BitVec 3) : (ppuRegReadEffect s n).cycles = s.cycles := by
  unfold ppuRegReadEffect statusEffect dataReadEffect; split <;> try split
  all_goals rfl

@[simp] theorem ppuRegReadEffect_jammed (n : BitVec 3) : (ppuRegReadEffect s n).jammed = s.jammed := by
  unfold ppuRegReadEffect statusEffect dataReadEffect; split <;> try split
  all_goals rfl

@[simp] theorem ppuRegReadEffect_ram (n : BitVec 3) : (ppuRegReadEffect s n).ram = s.ram := by
  unfold ppuRegReadEffect statusEffect dataReadEffect; split <;> try split
  all_goals rfl

@[simp] theorem ppuRegReadEffect_dma (n : BitVec 3) : (ppuRegReadEffect s n).dma = s.dma := by
  unfold ppuRegReadEffect statusEffect dataReadEffect; split <;> try split
  all_goals rfl

@[simp] theorem ppuRegReadEffect_master (n : BitVec 3) : (ppuRegReadEffect s n).master = s.master := by
  unfold ppuRegReadEffect statusEffect dataReadEffect; split <;> try split
  all_goals rfl

@[simp] theorem ppuRegReadEffect_cart (n : BitVec 3) : (ppuRegReadEffect s n).cart = s.cart := by
  unfold ppuRegReadEffect statusEffect dataReadEffect; split <;> try split
  all_goals rfl

@[simp] theorem ppuRegReadEffect_requests (n : BitVec 3) : (ppuRegReadEffect s n).requests = s.requests := by
  unfold ppuRegReadEffect statusEffect dataReadEffect; split <;> try split
  all_goals rfl

@[simp] theorem ppuWrite_a (n : BitVec 14) : (ppuWrite s n v).a = s.a := by
  unfold ppuWrite; repeat' split
  all_goals rfl

@[simp] theorem ppuRegWrite_a (n : BitVec 3) : (ppuRegWrite s n v).a = s.a := by
  unfold ppuRegWrite dataWrite; repeat' split
  all_goals simp

@[simp] theorem ppuWrite_x (n : BitVec 14) : (ppuWrite s n v).x = s.x := by
  unfold ppuWrite; repeat' split
  all_goals rfl

@[simp] theorem ppuRegWrite_x (n : BitVec 3) : (ppuRegWrite s n v).x = s.x := by
  unfold ppuRegWrite dataWrite; repeat' split
  all_goals simp

@[simp] theorem ppuWrite_y (n : BitVec 14) : (ppuWrite s n v).y = s.y := by
  unfold ppuWrite; repeat' split
  all_goals rfl

@[simp] theorem ppuRegWrite_y (n : BitVec 3) : (ppuRegWrite s n v).y = s.y := by
  unfold ppuRegWrite dataWrite; repeat' split
  all_goals simp

@[simp] theorem ppuWrite_sp (n : BitVec 14) : (ppuWrite s n v).sp = s.sp := by
  unfold ppuWrite; repeat' split
  all_goals rfl

@[simp] theorem ppuRegWrite_sp (n : BitVec 3) : (ppuRegWrite s n v).sp = s.sp := by
  unfold ppuRegWrite dataWrite; repeat' split
  all_goals simp

@[simp] theorem ppuWrite_pc (n : BitVec 14) : (ppuWrite s n v).pc = s.pc := by
  unfold ppuWrite; repeat' split
  all_goals rfl

@[simp] theorem ppuRegWrite_pc (n : BitVec 3) : (ppuRegWrite s n v).pc = s.pc := by
  unfold ppuRegWrite dataWrite; repeat' split
  all_goals simp

@[simp] theorem ppuWrite_p (n : BitVec 14) : (ppuWrite s n v).p = s.p := by
  unfold ppuWrite; repeat' split
  all_goals rfl

@[simp] theorem ppuRegWrite_p (n : BitVec 3) : (ppuRegWrite s n v).p = s.p := by
  unfold ppuRegWrite dataWrite; repeat' split
  all_goals simp

@[simp] theorem ppuWrite_cycles (n : BitVec 14) : (ppuWrite s n v).cycles = s.cycles := by
  unfold ppuWrite; repeat' split
  all_goals rfl

@[simp] theorem ppuRegWrite_cycles (n : BitVec 3) : (ppuRegWrite s n v).cycles = s.cycles := by
  unfold ppuRegWrite dataWrite; repeat' split
  all_goals simp

@[simp] theorem ppuWrite_jammed (n : BitVec 14) : (ppuWrite s n v).jammed = s.jammed := by
  unfold ppuWrite; repeat' split
  all_goals rfl

@[simp] theorem ppuRegWrite_jammed (n : BitVec 3) : (ppuRegWrite s n v).jammed = s.jammed := by
  unfold ppuRegWrite dataWrite; repeat' split
  all_goals simp

@[simp] theorem ppuWrite_ram (n : BitVec 14) : (ppuWrite s n v).ram = s.ram := by
  unfold ppuWrite; repeat' split
  all_goals rfl

@[simp] theorem ppuRegWrite_ram (n : BitVec 3) : (ppuRegWrite s n v).ram = s.ram := by
  unfold ppuRegWrite dataWrite; repeat' split
  all_goals simp

@[simp] theorem ppuWrite_dma (n : BitVec 14) : (ppuWrite s n v).dma = s.dma := by
  unfold ppuWrite; repeat' split
  all_goals rfl

@[simp] theorem ppuRegWrite_dma (n : BitVec 3) : (ppuRegWrite s n v).dma = s.dma := by
  unfold ppuRegWrite dataWrite; repeat' split
  all_goals simp

@[simp] theorem ppuWrite_master (n : BitVec 14) : (ppuWrite s n v).master = s.master := by
  unfold ppuWrite; repeat' split
  all_goals rfl

@[simp] theorem ppuRegWrite_master (n : BitVec 3) : (ppuRegWrite s n v).master = s.master := by
  unfold ppuRegWrite dataWrite; repeat' split
  all_goals simp

@[simp] theorem ppuWrite_requests (n : BitVec 14) : (ppuWrite s n v).requests = s.requests := by
  unfold ppuWrite; repeat' split
  all_goals rfl

@[simp] theorem ppuRegWrite_requests (n : BitVec 3) : (ppuRegWrite s n v).requests = s.requests := by
  unfold ppuRegWrite dataWrite; repeat' split
  all_goals simp

@[simp] theorem ppuWrite_draws (n : BitVec 14) : (ppuWrite s n v).draws = s.draws := by
  unfold ppuWrite; repeat' split
  all_goals rfl

@[simp] theorem ppuRegWrite_draws (n : BitVec 3) : (ppuRegWrite s n v).draws = s.draws := by
  unfold ppuRegWrite dataWrite; repeat' split
  all_goals simp

/-! ### What a bus read can change: the picture processor and the count of free values -/

@[simp] theorem busEffect_a : (busEffect s a).a = s.a := by
  unfold busEffect; repeat' split
  all_goals simp

@[simp] theorem busEffect_x : (busEffect s a).x = s.x := by
  unfold busEffect; repeat' split
  all_goals simp

@[simp] theorem busEffect_y : (busEffect s a).y = s.y := by
  unfold busEffect; repeat' split
  all_goals simp

@[simp] theorem busEffect_sp : (busEffect s a).sp = s.sp := by
  unfold busEffect; repeat' split
  all_goals simp

@[simp] theorem busEffect_pc : (busEffect s a).pc = s.pc := by
  unfold busEffect; repeat' split
  all_goals simp

@[simp] theorem busEffect_p : (busEffect s a).p = s.p := by
  unfold busEffect; repeat' split
  all_goals simp

@[simp] theorem busEffect_cycles : (busEffect s a).cycles = s.cycles := by
  unfold busEffect; repeat' split
  all_goals simp

@[simp] theorem busEffect_jammed : (busEffect s a).jammed = s.jammed := by
  unfold busEffect; repeat' split
  all_goals simp

@[simp] theorem busEffect_ram : (busEffect s a).ram = s.ram := by
  unfold busEffect; repeat' split
  all_goals simp

@[simp] theorem busEffect_dma : (busEffect s a).dma = s.dma := by
  unfold busEffect; repeat' split
  all_goals simp

@[simp] theorem busEffect_master : (busEffect s a).master = s.master := by
  unfold busEffect; repeat' split
  all_goals simp

@[simp] theorem busEffect_cart : (busEffect s a).cart = s.cart := by
  unfold busEffect; repeat' split
  all_goals simp

@[simp] theorem busEffect_requests : (busEffect s a).requests = s.requests := by
  unfold busEffect; repeat' split
  all_goals simp

/-! ### What a bus write can change: RAM, the DMA request, the cartridge, the picture processor -/

@[simp] theorem memWrite_a : (memWrite s a v).a = s.a := by
  unfold memWrite; repeat' split
  all_goals simp

@[simp] theorem memWrite_x : (memWrite s a v).x = s.x := by
  unfold memWrite; repeat' split
  all_goals simp

@[simp] theorem memWrite_y : (memWrite s a v).y = s.y := by
  unfold memWrite; repeat' split
  all_goals simp

@[simp] theorem memWrite_sp : (memWrite s a v).sp = s.sp := by
  unfold memWrite; repeat' split
  all_goals simp

@[simp] theorem memWrite_pc : (memWrite s a v).pc = s.pc := by
  unfold memWrite; repeat' split
  all_goals simp

@[simp] theorem memWrite_p : (memWrite s a v).p = s.p := by
  unfold memWrite; repeat' split
  all_goals simp

@[simp] theorem memWrite_cycles : (memWrite s a v).cycles = s.cycles := by
  unfold memWrite; repeat' split
  all_goals simp

@[simp] theorem memWrite_jammed : (memWrite s a v).jammed = s.jammed := by
  unfold memWrite; repeat' split
  all_goals simp

@[simp] theorem memWrite_master : (memWrite s a v).master = s.master := by
  unfold memWrite; repeat' split
  all_goals simp

@[simp] theorem memWrite_requests : (memWrite s a v).requests = s.requests := by
  unfold memWrite; repeat' split
  all_goals simp

@[simp] theorem memWrite_draws : (memWrite s a v).draws = s.draws := by
  unfold memWrite; repeat' split
  all_goals simp

/-! ### RAM and cartridge accesses -/

theorem ramIndex_lt : ramIndex a < 2048 := by
  unfold ramIndex
  rw [BitVec.toNat_and]
  exact Nat.lt_of_le_of_lt Nat.and_le_right (by decide)

/-- RAM is mirrored every 2 KiB (`20` R65). -/
theorem ramIndex_eq_mod : ramIndex a = a.toNat % 2048 := by
  unfold ramIndex
  rw [BitVec.toNat_and]
  exact Nat.and_two_pow_sub_one_eq_mod a.toNat 11

theorem busValue_of_ram (h : a < 0x2000#16) : busValue s a = Memory.read s.ram (ramIndex a) := by
  unfold busValue; rw [if_pos h]

theorem busEffect_of_ram (h : a < 0x2000#16) : busEffect s a = s := by
  unfold busEffect; rw [if_pos h]

theorem memWrite_of_ram (h : a < 0x2000#16) :
    memWrite s a v = s.setRam (Memory.write s.ram (ramIndex a) v) := by
  unfold memWrite; rw [if_pos h]

theorem isCollab_of_le (h : 0x4020#16 ≤ a) : isCollab a = false := by
  unfold isCollab
  rw [decide_eq_false_iff_not]
  intro ⟨_, h2, _⟩
  rw [BitVec.le_def] at h h2
  have e1 : (0x4020#16 : Addr).toNat = 0x4020 := rfl
  have e2 : (0x4017#16 : Addr).toNat = 0x4017 := rfl
  omega

theorem busValue_of_cart (h : 0x4020#16 ≤ a) : busValue s a = cartRead s.cart a := by
  unfold busValue
  rw [BitVec.le_def] at h
  have e1 : (0x4020#16 : Addr).toNat = 0x4020 := rfl
  rw [if_neg (by rw [BitVec.lt_def]; have : (0x2000#16 : Addr).toNat = 0x2000 := rfl; omega),
    if_neg (by rw [BitVec.lt_def]; have : (0x4000#16 : Addr).toNat = 0x4000 := rfl; omega),
    isCollab_of_le a (by rw [BitVec.le_def]; exact h), if_neg (by simp),
    if_neg (by rw [BitVec.lt_def]; omega)]

theorem busEffect_of_cart (h : 0x4020#16 ≤ a) : busEffect s a = s := by
  unfold busEffect
  rw [BitVec.le_def] at h
  have e1 : (0x4020#16 : Addr).toNat = 0x4020 := rfl
  rw [if_neg (by rw [BitVec.lt_def]; have : (0x2000#16 : Addr).toNat = 0x2000 := rfl; omega),
    if_neg (by rw [BitVec.lt_def]; have : (0x4000#16 : Addr).toNat = 0x4000 := rfl; omega),
    isCollab_of_le a (by rw [BitVec.le_def]; exact h), if_neg (by simp)]

/-! ### Page zero and the stack page -/

theorem zeroPage_lt (b : Byte) : (b.setWidth 16 : Addr) < 0x2000#16 := by
  have := b.isLt
  rw [BitVec.lt_def, BitVec.toNat_setWidth]
  have : (0x2000#16 : Addr).toNat = 0x2000 := rfl
  omega

theorem ramIndex_zeroPage (b : Byte) : ramIndex (b.setWidth 16) = b.toNat := by
  have := b.isLt
  rw [ramIndex_eq_mod, BitVec.toNat_setWidth]; omega

theorem toNat_stackAddr (b : Byte) : (stackAddr b).toNat = 256 + b.toNat := by
  have := b.isLt
  unfold stackAddr Config.stackBase
  rw [BitVec.toNat_add, BitVec.toNat_setWidth]
  have : (0x0100#16 : Addr).toNat = 256 := rfl
  omega

theorem stackAddr_lt (b : Byte) : stackAddr b < 0x2000#16 := by
  have := b.isLt
  rw [BitVec.lt_def, toNat_stackAddr]
  have : (0x2000#16 : Addr).toNat = 0x2000 := rfl
  omega

theorem ramIndex_stackAddr (b : Byte) : ramIndex (stackAddr b) = 256 + b.toNat := by
  have := b.isLt
  rw [ramIndex_eq_mod, toNat_stackAddr]; omega

/-- `Push(v)` stores in the stack page and moves the pointer down; nothing else (`40` R138). -/
theorem push_eq :
    push s v = (s.setRam (Memory.write s.ram (256 + s.sp.toNat) v)).setSp (s.sp - 1) := by
  unfold push
  rw [memWrite_of_ram _ _ _ (stackAddr_lt _), ramIndex_stackAddr]

/-- `Pull()` moves the pointer up and reads the stack page; nothing else (`40` R138). -/
theorem pull_eq :
    pull s = (Memory.read s.ram (256 + (s.sp + 1).toNat), s.setSp (s.sp + 1)) := by
  unfold pull memRead
  simp only [State.setSp_sp]
  rw [busValue_of_ram _ _ (stackAddr_lt _), busEffect_of_ram _ _ (stackAddr_lt _), ramIndex_stackAddr,
    State.setSp_ram]

/-- Pushing a word: high byte first, two bytes of the stack page (`20` R73). -/
theorem pushWord_eq (w : Addr) :
    pushWord s w = (s.setRam (Memory.write (Memory.write s.ram (256 + s.sp.toNat) (hiByte w))
      (256 + (s.sp - 1).toNat) (loByte w))).setSp (s.sp - 2) := by
  unfold pushWord
  rw [push_eq, push_eq]
  apply State.ext_fields <;> try rfl
  show s.sp - 1 - 1 = s.sp - 2
  rw [BitVec.sub_sub]; rfl

/-- Pulling a word: low byte first (`20` R73). -/
theorem pullWord_eq :
    pullWord s = (wordOf (Memory.read s.ram (256 + (s.sp + 2).toNat))
      (Memory.read s.ram (256 + (s.sp + 1).toNat)), s.setSp (s.sp + 2)) := by
  unfold pullWord
  rw [pull_eq]
  simp only
  rw [pull_eq]
  have : s.sp + 1 + 1 = s.sp + 2 := by rw [BitVec.add_assoc]; rfl
  simp only [State.setSp_sp, State.setSp_ram, this]
  rfl

/-- Reading a vector in cartridge space changes nothing (`20` R71, R77). -/
theorem readVector_eq (h : 0x4020#16 ≤ a) (h1 : 0x4020#16 ≤ a + 1) :
    readVector s a = (wordOf (cartRead s.cart (a + 1)) (cartRead s.cart a), s) := by
  unfold readVector memRead
  simp only [busValue_of_cart _ _ h, busEffect_of_cart _ _ h, busValue_of_cart _ _ h1, busEffect_of_cart _ _ h1]

/-- The entry that BRK, `irq()` and `nmi()` share, whole: three bytes pushed, `P.I` set, `PC` from the
vector (`60` R410, `45` R302). -/
theorem enterHandler_eq (h : 0x4020#16 ≤ a) (h1 : 0x4020#16 ≤ a + 1) :
    enterHandler v a s =
      { s with
        ram := Memory.write (Memory.write (Memory.write s.ram (256 + s.sp.toNat) (hiByte s.pc))
          (256 + (s.sp - 1).toNat) (loByte s.pc)) (256 + (s.sp - 2).toNat) v,
        sp := s.sp - 3, p := setFlag s.p .i true,
        pc := wordOf (cartRead s.cart (a + 1)) (cartRead s.cart a) } := by
  unfold enterHandler
  rw [pushWord_eq, push_eq]
  simp only
  rw [readVector_eq _ _ h h1]
  apply State.ext_fields <;> try rfl
  show s.sp - 2 - 1 = s.sp - 3
  rw [BitVec.sub_sub]; rfl

/-- What RTI pulls, whole (`45` R303). -/
theorem returnFromHandler_eq :
    returnFromHandler s =
      { s with
        p := pulledStatus (Memory.read s.ram (256 + (s.sp + 1).toNat)),
        pc := wordOf (Memory.read s.ram (256 + (s.sp + 3).toNat))
          (Memory.read s.ram (256 + (s.sp + 2).toNat)),
        sp := s.sp + 3 } := by
  unfold returnFromHandler
  rw [pull_eq]
  simp only
  rw [pullWord_eq]
  have h2 : s.sp + 1 + 1 = s.sp + 2 := by rw [BitVec.add_assoc]; rfl
  have h3 : s.sp + 1 + 2 = s.sp + 3 := by rw [BitVec.add_assoc]; rfl
  simp only [State.setP_sp, State.setSp_sp, State.setP_ram, State.setSp_ram, h2, h3]
  rfl

end Sys2Proof.Machine
end

