-- ==== Sys2Proof/Laws/Flags.lean ====
section
/-! SUPPORT. The laws of the status register: what a flag reads after a write, that the flags determine
the byte, and every flag computation as arithmetic on numbers. -/

namespace Sys2Proof.Machine

@[simp] theorem getFlag_setFlag_same (p : Byte) (f : StatusFlag) (b : Bool) :
    getFlag (setFlag p f b) f = b := by
  cases b <;> cases f <;> simp [getFlag, setFlag, StatusFlag.pos]

theorem getFlag_setFlag_other (p : Byte) (f g : StatusFlag) (b : Bool) (h : f ≠ g) :
    getFlag (setFlag p f b) g = getFlag p g := by
  cases b <;> cases f <;> cases g <;>
    first | exact absurd rfl h | simp [getFlag, setFlag, StatusFlag.pos]

/-- Reading a flag after a write. -/
theorem getFlag_setFlag (p : Byte) (f g : StatusFlag) (b : Bool) :
    getFlag (setFlag p f b) g = if f = g then b else getFlag p g := by
  by_cases h : f = g
  · subst h; simp
  · rw [if_neg h, getFlag_setFlag_other _ _ _ _ h]

/-- The eight flags are the whole status byte. -/
theorem status_ext {p q : Byte} (h : ∀ f, getFlag p f = getFlag q f) : p = q := by
  apply BitVec.eq_of_getLsbD_eq
  intro i hi
  have h0 := h .c; have h1 := h .z; have h2 := h .i; have h3 := h .d
  have h4 := h .b; have h5 := h .u; have h6 := h .v; have h7 := h .n
  simp only [getFlag, StatusFlag.pos] at h0 h1 h2 h3 h4 h5 h6 h7
  match i, hi with
  | 0, _ => exact h0
  | 1, _ => exact h1
  | 2, _ => exact h2
  | 3, _ => exact h3
  | 4, _ => exact h4
  | 5, _ => exact h5
  | 6, _ => exact h6
  | 7, _ => exact h7

/-- Writing a flag twice. -/
@[simp] theorem setFlag_setFlag_same (p : Byte) (f : StatusFlag) (b c : Bool) :
    setFlag (setFlag p f b) f c = setFlag p f c := by
  apply status_ext; intro g
  simp only [getFlag_setFlag]; split <;> rfl

/-- Writes of two different flags commute. -/
theorem setFlag_comm (p : Byte) (f g : StatusFlag) (b c : Bool) (h : f ≠ g) :
    setFlag (setFlag p f b) g c = setFlag (setFlag p g c) f b := by
  apply status_ext; intro k
  simp only [getFlag_setFlag]
  by_cases hf : f = k
  · subst hf; simp [Ne.symm h]
  · simp [hf]

/-- Writing the value a flag has changes nothing. -/
theorem setFlag_eq_self {p : Byte} {f : StatusFlag} {b : Bool} (h : getFlag p f = b) :
    setFlag p f b = p := by
  apply status_ext; intro g
  rw [getFlag_setFlag]; split
  · rename_i e; rw [← e, h]
  · rfl

/-! ### The bytes that pushes and pulls make -/

theorem getFlag_pushedByInstruction (p : Byte) (f : StatusFlag) :
    getFlag (pushedByInstruction p) f = (f == .b || f == .u || getFlag p f) := by
  cases f <;> simp [getFlag, pushedByInstruction, StatusFlag.pos]

theorem getFlag_pushedByInterrupt (p : Byte) (f : StatusFlag) :
    getFlag (pushedByInterrupt p) f = (if f = .b then false else f == .u || getFlag p f) := by
  cases f <;> simp [pushedByInterrupt, getFlag_setFlag]

theorem getFlag_pulledStatus (v : Byte) (f : StatusFlag) :
    getFlag (pulledStatus v) f = (if f = .b ∨ f = .u then false else getFlag v f) := by
  cases f <;> simp [getFlag, pulledStatus, StatusFlag.pos]

/-! ### Bits as numbers -/

/-- Bit 7 of a byte is its sign. -/
theorem getLsbD_seven (v : Byte) : v.getLsbD 7 = decide (128 ≤ v.toNat) := by
  have : v.getLsbD 7 = v.msb := by simp [BitVec.msb_eq_getLsbD_last]
  rw [this, BitVec.msb_eq_decide]

/-- Any bit of a byte. -/
theorem getLsbD_eq_div (v : Byte) (i : Nat) : v.getLsbD i = decide (v.toNat / 2 ^ i % 2 = 1) := by
  unfold BitVec.getLsbD
  rw [Nat.testBit_eq_decide_div_mod_eq]

theorem beq_zero_eq (v : Byte) : (v == 0#8) = decide (v.toNat = 0) := by
  rw [Bool.eq_iff_iff, beq_iff_eq, decide_eq_true_iff, ← BitVec.toNat_inj]; rfl

/-! ### `SetZN` and `Compare` -/

theorem getFlag_setZN (v p : Byte) (f : StatusFlag) :
    getFlag (setZN v p) f =
      if f = .n then decide (128 ≤ v.toNat) else if f = .z then decide (v.toNat = 0)
      else getFlag p f := by
  unfold setZN
  rw [getFlag_setFlag, getFlag_setFlag, getLsbD_seven, beq_zero_eq]
  cases f <;> simp

theorem getFlag_compareFlags (r m p : Byte) (f : StatusFlag) :
    getFlag (compareFlags r m p) f =
      if f = .n then decide (128 ≤ (r - m).toNat) else if f = .z then decide (r.toNat = m.toNat)
      else if f = .c then decide (m.toNat ≤ r.toNat) else getFlag p f := by
  have hz : (r == m) = decide (r.toNat = m.toNat) := by
    rw [Bool.eq_iff_iff, beq_iff_eq, decide_eq_true_iff, BitVec.toNat_inj]
  have hc : decide (m ≤ r) = decide (m.toNat ≤ r.toNat) := rfl
  unfold compareFlags
  rw [getFlag_setFlag, getFlag_setFlag, getFlag_setFlag, getLsbD_seven, hz, hc]
  cases f <;> simp

/-! ### `AddWithCarry` -/

theorem adcSum_toNat (a m : Byte) (c : Bool) :
    (adcSum a m c).toNat = a.toNat + m.toNat + c.toNat := by
  have ha := a.isLt; have hm := m.isLt
  unfold adcSum
  cases c <;> simp [BitVec.toNat_add] <;> omega

/-- The carry out of `AddWithCarry` is a sum of 256 or more. -/
theorem adcSum_carry (a m : Byte) (c : Bool) :
    (adcSum a m c).getLsbD 8 = decide (256 ≤ a.toNat + m.toNat + c.toNat) := by
  have : (adcSum a m c).getLsbD 8 = (adcSum a m c).msb := by simp [BitVec.msb_eq_getLsbD_last]
  rw [this, BitVec.msb_eq_decide, adcSum_toNat]

/-- The result of `AddWithCarry` is the sum modulo 256. -/
theorem adcSum_result (a m : Byte) (c : Bool) :
    ((adcSum a m c).setWidth 8).toNat = (a.toNat + m.toNat + c.toNat) % 256 := by
  rw [BitVec.toNat_setWidth, adcSum_toNat]

/-- The overflow of `AddWithCarry`: the signed sum does not fit 8 bits. -/
theorem adcOverflow_signed (a m : Byte) (c : Bool) :
    adcOverflow a m ((adcSum a m c).setWidth 8) =
      decide (a.toInt + m.toInt + c.toNat < -128 ∨ 127 < a.toInt + m.toInt + c.toNat) := by
  have ha := a.isLt; have hm := m.isLt
  have hk : c.toNat ≤ 1 := by cases c <;> decide
  unfold adcOverflow
  rw [BitVec.getLsbD_and, BitVec.getLsbD_not, BitVec.getLsbD_xor, BitVec.getLsbD_xor,
    getLsbD_seven, getLsbD_seven, getLsbD_seven, adcSum_result, BitVec.toInt_eq_toNat_cond,
    BitVec.toInt_eq_toNat_cond]
  generalize a.toNat = x at *
  generalize m.toNat = y at *
  generalize c.toNat = k at *
  rw [Bool.eq_iff_iff]
  by_cases h1 : 128 ≤ x <;> by_cases h2 : 128 ≤ y <;> by_cases h3 : 128 ≤ (x + y + k) % 256 <;>
    simp [h1, h2, h3] <;> omega

end Sys2Proof.Machine
end

