-- ==== Sys2Proof/Laws/Rule.lean ====
section
/-! SUPPORT. The words of the statements (`Sys2Proof.Rule`) against the model's operations: the status
byte flag by flag, the resolvers as numbers, the shapes of an instruction as whole next states. -/

namespace Sys2Proof.Rule

open Sys2Proof.Machine

variable (s : State)

/-! ### Status bytes -/

theorem getFlag_statusByte (n v b d i z c : Bool) (f : StatusFlag) :
    getFlag (statusByte n v b d i z c) f =
      match f with
      | .n => n | .v => v | .u => true | .b => b | .d => d | .i => i | .z => z | .c => c := by
  revert n v b d i z c f
  intro n v b d i z c f
  cases f <;> cases n <;> cases v <;> cases b <;> cases d <;> cases i <;> cases z <;> cases c <;> rfl

/-- A status byte with the always-set flag 1 is the one made of its flags. -/
theorem statusByte_eq {q : Byte} {n v b d i z c : Bool} (hu : getFlag q .u = true)
    (hn : getFlag q .n = n) (hv : getFlag q .v = v) (hb : getFlag q .b = b) (hd : getFlag q .d = d)
    (hi : getFlag q .i = i) (hz : getFlag q .z = z) (hc : getFlag q .c = c) :
    q = statusByte n v b d i z c := by
  apply status_ext; intro f
  rw [getFlag_statusByte]
  cases f <;> assumption

/-- Setting the always-set flag is the whole effect on an untouched status. -/
theorem sameFlags_eq : setFlag s.p .u true = sameFlags s := by
  apply statusByte_eq <;> simp [State.flag, getFlag_setFlag]

theorem flagsZN_eq (r : Byte) : setFlag (setZN r s.p) .u true = flagsZN s r := by
  apply statusByte_eq <;>
    simp [State.flag, getFlag_setFlag, getFlag_setZN]

theorem flagsCZN_eq (c : Bool) (r : Byte) :
    setFlag (setZN r (setFlag s.p .c c)) .u true = flagsCZN s c r := by
  apply statusByte_eq <;>
    simp [State.flag, getFlag_setFlag, getFlag_setZN]

theorem flagsVCZN_eq (v c : Bool) (r : Byte) :
    setFlag (setZN r (setFlag (setFlag s.p .c c) .v v)) .u true = flagsVCZN s v c r := by
  apply statusByte_eq <;>
    simp [State.flag, getFlag_setFlag, getFlag_setZN]

theorem flagSet_eq (f : StatusFlag) (on : Bool) :
    setFlag (setFlag s.p f on) .u true = flagSet s f on := by
  apply statusByte_eq <;> simp [State.flag, getFlag_setFlag]

theorem carry_eq : (s.flag .c).toNat = carry s := by
  unfold carry; cases s.flag .c <;> rfl

/-! ### Resolvers -/

theorem word_toNat (w : Addr) : word w.toNat = w := BitVec.ofNat_toNat .. |>.trans (by simp)

theorem otherPage_le (m n : Nat) : otherPage m n ≤ 1 := by unfold otherPage; split <;> decide

theorem eaZp0_eq (zp : Byte) : eaZp0 zp s = { addr := word zp.toNat, af := false, st := s } := by
  unfold eaZp0
  congr 1
  apply BitVec.eq_of_toNat_eq; simp

theorem eaZpx_eq (zp : Byte) : eaZpx zp s = { addr := word (zpx zp s), af := false, st := s } := by
  unfold eaZpx zpx
  congr 1
  apply BitVec.eq_of_toNat_eq; simp [BitVec.toNat_add]

theorem eaZpy_eq (zp : Byte) : eaZpy zp s = { addr := word (zpy zp s), af := false, st := s } := by
  unfold eaZpy zpy
  congr 1
  apply BitVec.eq_of_toNat_eq; simp [BitVec.toNat_add]

theorem eaAbs_eq (w : Addr) : eaAbs w s = { addr := word w.toNat, af := false, st := s } := by
  unfold eaAbs; rw [word_toNat]

/-- An indexed address, and its page crossing, as numbers. -/
theorem indexed_eq (w : Addr) (r : Byte) :
    indexed w r s =
      { addr := word ((w.toNat + r.toNat) % 65536),
        af := decide (otherPage ((w.toNat + r.toNat) % 65536) w.toNat = 1), st := s } := by
  have hr : (w + r.setWidth 16 : Addr).toNat = (w.toNat + r.toNat) % 65536 := by
    have := r.isLt
    rw [BitVec.toNat_add, BitVec.toNat_setWidth, Nat.mod_eq_of_lt (a := r.toNat) (by omega)]
  unfold indexed
  congr 1
  · apply BitVec.eq_of_toNat_eq; rw [hr]; simp
  · have : (hiByte (w + r.setWidth 16) = hiByte w) ↔
        (w.toNat + r.toNat) % 65536 / 256 = w.toNat / 256 := by
      rw [← BitVec.toNat_inj, toNat_hiByte, toNat_hiByte, hr]
    unfold otherPage
    by_cases h : (w.toNat + r.toNat) % 65536 / 256 = w.toNat / 256
    · simp [this.mpr h, h]
    · have h' := fun e => h (this.mp e)
      simp [h]
      exact h'

theorem eaAbx_eq (w : Addr) :
    eaAbx w s = { addr := word (abx w s), af := decide (otherPage (abx w s) w.toNat = 1), st := s } :=
  indexed_eq s w s.x

theorem eaAby_eq (w : Addr) :
    eaAby w s = { addr := word (aby w s), af := decide (otherPage (aby w s) w.toNat = 1), st := s } :=
  indexed_eq s w s.y

/-- The pointer of the two zero-page-pointer modes, as a number; reading it changes nothing. -/
theorem zeroPagePointer_eq (t : Byte) :
    zeroPagePointer t s = (word (pageZeroWord t.toNat s), s) := by
  have ht := t.isLt
  have h1 : (t + 1 : Byte).toNat = (t.toNat + 1) % 256 := by rw [BitVec.toNat_add]; rfl
  have hl := (Memory.read s.ram (t.toNat % 256)).isLt
  have hh := (Memory.read s.ram ((t.toNat + 1) % 256)).isLt
  unfold zeroPagePointer memRead
  simp only [busEffect_of_ram _ _ (zeroPage_lt _), busValue_of_ram _ _ (zeroPage_lt _),
    ramIndex_zeroPage, h1]
  congr 1
  apply BitVec.eq_of_toNat_eq
  rw [toNat_wordOf, BitVec.toNat_ofNat]
  unfold pageZeroWord peek
  rw [Nat.mod_eq_of_lt ht]
  rw [Nat.mod_eq_of_lt ht] at hl
  omega

theorem eaIzx_eq (zp : Byte) :
    eaIzx zp s = { addr := word (izx zp s), af := false, st := s } := by
  unfold eaIzx izx
  rw [zeroPagePointer_eq]
  have : pageZeroWord (zp + s.x).toNat s = pageZeroWord (zp.toNat + s.x.toNat) s := by
    unfold pageZeroWord
    rw [BitVec.toNat_add, show (2 : Nat) ^ 8 = 256 from rfl, Nat.mod_mod,
      show ((zp.toNat + s.x.toNat) % 256 + 1) % 256 = (zp.toNat + s.x.toNat + 1) % 256 by omega]
  simp only [this]

theorem eaIzy_eq (zp : Byte) :
    eaIzy zp s =
      { addr := word (izy zp s), af := decide (otherPage (izy zp s) (pageZeroWord zp.toNat s) = 1),
        st := s } := by
  have hl := (Memory.read s.ram (zp.toNat % 256)).isLt
  have hh := (Memory.read s.ram ((zp.toNat + 1) % 256)).isLt
  unfold eaIzy
  rw [zeroPagePointer_eq]
  simp only
  rw [indexed_eq]
  have : (word (pageZeroWord zp.toNat s)).toNat = pageZeroWord zp.toNat s := by
    rw [BitVec.toNat_ofNat]; apply Nat.mod_eq_of_lt
    unfold pageZeroWord peek; omega
  rw [this]; rfl

/-! ### Shapes -/

theorem af_toNat (m n : Nat) : (decide (otherPage m n = 1) && true).toNat = otherPage m n := by
  have := otherPage_le m n
  by_cases h : otherPage m n = 1
  · simp [h]
  · have : otherPage m n = 0 := by omega
    simp [this]

/-- The next state at the end of an instruction. -/
def done (t : State) (n : Nat) : Out := .next { t with p := setFlag t.p .u true, cycles := n }

theorem readOp_plain (base : Nat) (xf : Bool) (body : Byte → State → State) (a : Addr) :
    readOp base xf body { addr := a, af := false, st := s } =
      done (body (busValue s a) (busEffect s a)) base := rfl

theorem readOp_paged (base m n : Nat) (body : Byte → State → State) (a : Addr) :
    readOp base true body { addr := a, af := decide (otherPage m n = 1), st := s } =
      done (body (busValue s a) (busEffect s a)) (base + otherPage m n) := by
  have := af_toNat m n
  unfold readOp finish done memRead
  simp only [this]; rfl

theorem storeOp_eq (base : Nat) (value : State → Byte) (a : Addr) (af : Bool) :
    storeOp base value { addr := a, af := af, st := s } = done (memWrite s a (value s)) base := by
  unfold storeOp finish done; simp only [Bool.and_false]; rfl

theorem rmwOp_eq (base : Nat) (result : Byte → Bool → Byte) (after : Byte → Byte → State → State)
    (a : Addr) (af : Bool) :
    rmwOp base result after { addr := a, af := af, st := s } =
      done (after (busValue s a) (result (busValue s a) (s.flag .c))
        (memWrite (busEffect s a) a (result (busValue s a) (s.flag .c)))) base := by
  have : (busEffect s a).flag .c = s.flag .c := by unfold State.flag; simp
  unfold rmwOp finish done memRead
  simp only [Bool.and_false, this]; rfl

theorem nopOp_plain (base : Nat) (a : Addr) :
    nopOp base { addr := a, af := false, st := s } = done s base := rfl

theorem nopOp_paged (base m n : Nat) (a : Addr) :
    nopOp base { addr := a, af := decide (otherPage m n = 1), st := s } =
      done s (base + otherPage m n) := by
  have := af_toNat m n
  unfold nopOp finish done
  simp only [this]; rfl

theorem impOp_eq (base : Nat) (body : State → State) : impOp base body s = done (body s) base := rfl

theorem immOp_eq (base : Nat) (body : Byte → State → State) (m : Byte) :
    immOp base body m s = done (body m s) base := rfl

end Sys2Proof.Rule
end

