-- ==== Sys2Proof/Laws/Body.lean ====
section
/-! SUPPORT. The bodies of the instructions against the arithmetic of the rules (`Sys2Proof.Rule`):
addition, subtraction, comparison, the bytes and the carries of the shifts. -/

namespace Sys2Proof.Rule

open Sys2Proof.Machine

/-- The end of an instruction, field by field. -/
theorem done_congr {t u : State} {n : Nat} (ha : t.a = u.a) (hx : t.x = u.x) (hy : t.y = u.y)
    (hsp : t.sp = u.sp) (hpc : t.pc = u.pc) (hp : setFlag t.p .u true = u.p) (hc : n = u.cycles)
    (hj : t.jammed = u.jammed) (hr : t.ram = u.ram) (hd : t.dma = u.dma) (hm : t.master = u.master)
    (hk : t.cart = u.cart) (hg : t.ppu = u.ppu) (hq : t.requests = u.requests)
    (hw : t.draws = u.draws) : done t n = .next u := by
  unfold done; congr 1; apply State.ext_fields <;> assumption

theorem byte_sub_eq (r m : Byte) : r - m = BitVec.ofNat 8 (r.toNat + 256 - m.toNat) := by
  have := m.isLt
  apply BitVec.eq_of_toNat_eq; rw [BitVec.toNat_sub, BitVec.toNat_ofNat]; congr 1; omega

theorem byte_succ_eq (m : Byte) : m + 1 = BitVec.ofNat 8 (m.toNat + 1) := by
  apply BitVec.eq_of_toNat_eq; rw [BitVec.toNat_add, BitVec.toNat_ofNat]; rfl

theorem byte_pred_eq (m : Byte) : m - 1 = BitVec.ofNat 8 (m.toNat + 255) := byte_sub_eq m 1

/-- `AddWithCarry` on a state whose accumulator and status are those of `s` (`42` R216). -/
theorem done_addWithCarry (s r : State) (m : Byte) (n : Nat) (hp : r.p = s.p) (ha : r.a = s.a) :
    done (addWithCarry m r) n =
      .next { r with
        a := adcByte s.a m (carry s),
        p := flagsVCZN s (adcOver s.a m (carry s)) (adcCarry s.a m (carry s))
              (adcByte s.a m (carry s)),
        cycles := n } := by
  have hf : r.flag .c = s.flag .c := by unfold State.flag; rw [hp]
  have hb : (adcSum s.a m (s.flag .c)).setWidth 8 = adcByte s.a m (carry s) := by
    apply BitVec.eq_of_toNat_eq
    rw [adcSum_result, carry_eq]; simp [adcByte]
  have hc : (adcSum s.a m (s.flag .c)).getLsbD 8 = adcCarry s.a m (carry s) := by
    rw [adcSum_carry, carry_eq]; rfl
  have hv : adcOverflow s.a m (adcByte s.a m (carry s)) = adcOver s.a m (carry s) := by
    rw [← hb, adcOverflow_signed, carry_eq]; rfl
  have e : addWithCarry m r =
      ((r.setP (setFlag (setFlag s.p .c (adcCarry s.a m (carry s))) .v
        (adcOver s.a m (carry s)))).setA (adcByte s.a m (carry s))).setZN
        (adcByte s.a m (carry s)) := by
    unfold addWithCarry; simp only [hf, ha, hp, hb, hc, hv]
  rw [e]
  apply done_congr <;> try rfl
  rw [← flagsVCZN_eq]; simp

/-- SBC is ADC of the complement, as numbers (`42` R201). -/
theorem adc_compl (a m : Byte) (c : Nat) (hc : c ≤ 1) :
    adcByte a (m ^^^ 0xFF#8) c = sbcByte a m c ∧ adcCarry a (m ^^^ 0xFF#8) c = sbcCarry a m c
      ∧ adcOver a (m ^^^ 0xFF#8) c = sbcOver a m c := by
  have hx : (m ^^^ 0xFF#8).toNat = 255 - m.toNat := by revert m; decide
  have hi : (m ^^^ 0xFF#8).toInt = -1 - m.toInt := by revert m; decide
  have hm := m.isLt
  have ha := a.isLt
  refine ⟨?_, ?_, ?_⟩
  · unfold adcByte sbcByte; rw [hx]
    apply BitVec.eq_of_toNat_eq
    rw [BitVec.toNat_ofNat, BitVec.toNat_ofInt]
    omega
  · unfold adcCarry sbcCarry; rw [hx, decide_eq_decide]; omega
  · unfold adcOver sbcOver; rw [hi, decide_eq_decide]; omega

theorem carry_le (s : State) : carry s ≤ 1 := by unfold carry; split <;> decide

/-- `Compare` on a state whose status is that of `s` (`42` R215). -/
theorem done_compare (s r : State) (x m : Byte) (n : Nat) (hp : r.p = s.p) :
    done (r.setP (compareFlags x m r.p)) n =
      .next { r with p := flagsCompare s x m, cycles := n } := by
  apply done_congr <;> try rfl
  simp only [State.setP_p, hp]
  unfold flagsCompare flagsCZN
  have e := byte_sub_eq x m
  apply statusByte_eq <;> simp [State.flag, getFlag_setFlag, getFlag_compareFlags]
  · have := m.isLt
    rw [show 256 - m.toNat + x.toNat = x.toNat + 256 - m.toNat by omega]
  · have := x.isLt
    have := m.isLt
    by_cases h : x.toNat = m.toNat <;> simp [h]
    omega

theorem aslResult_eq (m : Byte) : aslResult m = shiftLeft m 0 := by
  unfold aslResult shiftLeft
  apply BitVec.eq_of_toNat_eq
  rw [BitVec.toNat_shiftLeft, BitVec.toNat_ofNat, Nat.shiftLeft_eq]; congr 1; omega

theorem lsrResult_eq (m : Byte) : lsrResult m = shiftRight m 0 := by
  have := m.isLt
  unfold lsrResult shiftRight
  apply BitVec.eq_of_toNat_eq
  rw [BitVec.toNat_ushiftRight, BitVec.toNat_ofNat, Nat.shiftRight_eq_div_pow]; omega

theorem rolResult_eq (m : Byte) (s : State) : rolResult m (s.flag .c) = shiftLeft m (carry s) := by
  unfold carry
  cases s.flag .c <;> revert m <;> decide

theorem rorResult_eq (m : Byte) (s : State) : rorResult m (s.flag .c) = shiftRight m (carry s) := by
  unfold carry
  cases s.flag .c <;> revert m <;> decide

theorem bit7_eq (m : Byte) : m.getLsbD 7 = outLeft m := by rw [getLsbD_seven]; rfl

theorem bit0_eq (m : Byte) : m.getLsbD 0 = outRight m := by rw [getLsbD_eq_div]; simp [outRight]

theorem busEffect_flag (s : State) (a : Addr) (f : StatusFlag) :
    (busEffect s a).flag f = s.flag f := by
  unfold State.flag; simp

end Sys2Proof.Rule
end

