-- ==== Sys2Proof/Laws/PerInstr.lean ====
section
/-! SUPPORT. Statements about every instruction as syntax, one lemma per constructor. `EncodedLength`: the
length the opcode byte announces is the number of bytes the encoder writes (`30_encoding.md` R100). -/

namespace Sys2Proof.Laws.EncodedLength

/-- The opcode byte of a well-formed instruction announces the instruction's length (R100). -/
def Statement (i : Instr) : Prop :=
  i.wellFormed = true → (encode i).head?.map instrLength = some (encode i).length

theorem brk : Statement (.brk) := fun _ => rfl
theorem oraIzx (zp : Byte) : Statement (.oraIzx zp) := fun _ => rfl
theorem stp (op : Byte) : Statement (.stp op) := by
  have h : ∀ o : Byte, stpOpcodes.contains o = true → instrLength o = 1 := by decide +kernel
  exact fun hw => congrArg some (h op hw)
theorem sloIzx (zp : Byte) : Statement (.sloIzx zp) := fun _ => rfl
theorem nop04 (zp : Byte) : Statement (.nop04 zp) := fun _ => rfl
theorem oraZp0 (zp : Byte) : Statement (.oraZp0 zp) := fun _ => rfl
theorem aslZp0 (zp : Byte) : Statement (.aslZp0 zp) := fun _ => rfl
theorem sloZp0 (zp : Byte) : Statement (.sloZp0 zp) := fun _ => rfl
theorem php : Statement (.php) := fun _ => rfl
theorem oraImm (imm : Byte) : Statement (.oraImm imm) := fun _ => rfl
theorem aslAcc : Statement (.aslAcc) := fun _ => rfl
theorem anc0B (imm : Byte) : Statement (.anc0B imm) := fun _ => rfl
theorem nop0C (w : Addr) : Statement (.nop0C w) := fun _ => rfl
theorem oraAbs (w : Addr) : Statement (.oraAbs w) := fun _ => rfl
theorem aslAbs (w : Addr) : Statement (.aslAbs w) := fun _ => rfl
theorem sloAbs (w : Addr) : Statement (.sloAbs w) := fun _ => rfl
theorem bpl (rel : Byte) : Statement (.bpl rel) := fun _ => rfl
theorem oraIzy (zp : Byte) : Statement (.oraIzy zp) := fun _ => rfl
theorem sloIzy (zp : Byte) : Statement (.sloIzy zp) := fun _ => rfl
theorem nop14 (zp : Byte) : Statement (.nop14 zp) := fun _ => rfl
theorem oraZpx (zp : Byte) : Statement (.oraZpx zp) := fun _ => rfl
theorem aslZpx (zp : Byte) : Statement (.aslZpx zp) := fun _ => rfl
theorem sloZpx (zp : Byte) : Statement (.sloZpx zp) := fun _ => rfl
theorem clc : Statement (.clc) := fun _ => rfl
theorem oraAby (w : Addr) : Statement (.oraAby w) := fun _ => rfl
theorem nop1A : Statement (.nop1A) := fun _ => rfl
theorem sloAby (w : Addr) : Statement (.sloAby w) := fun _ => rfl
theorem nop1C (w : Addr) : Statement (.nop1C w) := fun _ => rfl
theorem oraAbx (w : Addr) : Statement (.oraAbx w) := fun _ => rfl
theorem aslAbx (w : Addr) : Statement (.aslAbx w) := fun _ => rfl
theorem sloAbx (w : Addr) : Statement (.sloAbx w) := fun _ => rfl
theorem jsrAbs (w : Addr) : Statement (.jsrAbs w) := fun _ => rfl
theorem andIzx (zp : Byte) : Statement (.andIzx zp) := fun _ => rfl
theorem rlaIzx (zp : Byte) : Statement (.rlaIzx zp) := fun _ => rfl
theorem bitZp0 (zp : Byte) : Statement (.bitZp0 zp) := fun _ => rfl
theorem andZp0 (zp : Byte) : Statement (.andZp0 zp) := fun _ => rfl
theorem rolZp0 (zp : Byte) : Statement (.rolZp0 zp) := fun _ => rfl
theorem rlaZp0 (zp : Byte) : Statement (.rlaZp0 zp) := fun _ => rfl
theorem plp : Statement (.plp) := fun _ => rfl
theorem andImm (imm : Byte) : Statement (.andImm imm) := fun _ => rfl
theorem rolAcc : Statement (.rolAcc) := fun _ => rfl
theorem anc2B (imm : Byte) : Statement (.anc2B imm) := fun _ => rfl
theorem bitAbs (w : Addr) : Statement (.bitAbs w) := fun _ => rfl
theorem andAbs (w : Addr) : Statement (.andAbs w) := fun _ => rfl
theorem rolAbs (w : Addr) : Statement (.rolAbs w) := fun _ => rfl
theorem rlaAbs (w : Addr) : Statement (.rlaAbs w) := fun _ => rfl
theorem bmi (rel : Byte) : Statement (.bmi rel) := fun _ => rfl
theorem andIzy (zp : Byte) : Statement (.andIzy zp) := fun _ => rfl
theorem rlaIzy (zp : Byte) : Statement (.rlaIzy zp) := fun _ => rfl
theorem nop34 (zp : Byte) : Statement (.nop34 zp) := fun _ => rfl
theorem andZpx (zp : Byte) : Statement (.andZpx zp) := fun _ => rfl
theorem rolZpx (zp : Byte) : Statement (.rolZpx zp) := fun _ => rfl
theorem rlaZpx (zp : Byte) : Statement (.rlaZpx zp) := fun _ => rfl
theorem sec : Statement (.sec) := fun _ => rfl
theorem andAby (w : Addr) : Statement (.andAby w) := fun _ => rfl
theorem nop3A : Statement (.nop3A) := fun _ => rfl
theorem rlaAby (w : Addr) : Statement (.rlaAby w) := fun _ => rfl
theorem nop3C (w : Addr) : Statement (.nop3C w) := fun _ => rfl
theorem andAbx (w : Addr) : Statement (.andAbx w) := fun _ => rfl
theorem rolAbx (w : Addr) : Statement (.rolAbx w) := fun _ => rfl
theorem rlaAbx (w : Addr) : Statement (.rlaAbx w) := fun _ => rfl
theorem rti : Statement (.rti) := fun _ => rfl
theorem eorIzx (zp : Byte) : Statement (.eorIzx zp) := fun _ => rfl
theorem sreIzx (zp : Byte) : Statement (.sreIzx zp) := fun _ => rfl
theorem nop44 (zp : Byte) : Statement (.nop44 zp) := fun _ => rfl
theorem eorZp0 (zp : Byte) : Statement (.eorZp0 zp) := fun _ => rfl
theorem lsrZp0 (zp : Byte) : Statement (.lsrZp0 zp) := fun _ => rfl
theorem sreZp0 (zp : Byte) : Statement (.sreZp0 zp) := fun _ => rfl
theorem pha : Statement (.pha) := fun _ => rfl
theorem eorImm (imm : Byte) : Statement (.eorImm imm) := fun _ => rfl
theorem lsrAcc : Statement (.lsrAcc) := fun _ => rfl
theorem alrImm (imm : Byte) : Statement (.alrImm imm) := fun _ => rfl
theorem jmpAbs (w : Addr) : Statement (.jmpAbs w) := fun _ => rfl
theorem eorAbs (w : Addr) : Statement (.eorAbs w) := fun _ => rfl
theorem lsrAbs (w : Addr) : Statement (.lsrAbs w) := fun _ => rfl
theorem sreAbs (w : Addr) : Statement (.sreAbs w) := fun _ => rfl
theorem bvc (rel : Byte) : Statement (.bvc rel) := fun _ => rfl
theorem eorIzy (zp : Byte) : Statement (.eorIzy zp) := fun _ => rfl
theorem sreIzy (zp : Byte) : Statement (.sreIzy zp) := fun _ => rfl
theorem nop54 (zp : Byte) : Statement (.nop54 zp) := fun _ => rfl
theorem eorZpx (zp : Byte) : Statement (.eorZpx zp) := fun _ => rfl
theorem lsrZpx (zp : Byte) : Statement (.lsrZpx zp) := fun _ => rfl
theorem sreZpx (zp : Byte) : Statement (.sreZpx zp) := fun _ => rfl
theorem cli : Statement (.cli) := fun _ => rfl
theorem eorAby (w : Addr) : Statement (.eorAby w) := fun _ => rfl
theorem nop5A : Statement (.nop5A) := fun _ => rfl
theorem sreAby (w : Addr) : Statement (.sreAby w) := fun _ => rfl
theorem nop5C (w : Addr) : Statement (.nop5C w) := fun _ => rfl
theorem eorAbx (w : Addr) : Statement (.eorAbx w) := fun _ => rfl
theorem lsrAbx (w : Addr) : Statement (.lsrAbx w) := fun _ => rfl
theorem sreAbx (w : Addr) : Statement (.sreAbx w) := fun _ => rfl
theorem rts : Statement (.rts) := fun _ => rfl
theorem adcIzx (zp : Byte) : Statement (.adcIzx zp) := fun _ => rfl
theorem rraIzx (zp : Byte) : Statement (.rraIzx zp) := fun _ => rfl
theorem nop64 (zp : Byte) : Statement (.nop64 zp) := fun _ => rfl
theorem adcZp0 (zp : Byte) : Statement (.adcZp0 zp) := fun _ => rfl
theorem rorZp0 (zp : Byte) : Statement (.rorZp0 zp) := fun _ => rfl
theorem rraZp0 (zp : Byte) : Statement (.rraZp0 zp) := fun _ => rfl
theorem pla : Statement (.pla) := fun _ => rfl
theorem adcImm (imm : Byte) : Statement (.adcImm imm) := fun _ => rfl
theorem rorAcc : Statement (.rorAcc) := fun _ => rfl
theorem rsvImm (op : Byte) (imm : Byte) : Statement (.rsvImm op imm) := by
  have h : ∀ o : Byte, rsvImmOpcodes.contains o = true → instrLength o = 2 := by decide +kernel
  exact fun hw => congrArg some (h op hw)
theorem jmpInd (w : Addr) : Statement (.jmpInd w) := fun _ => rfl
theorem adcAbs (w : Addr) : Statement (.adcAbs w) := fun _ => rfl
theorem rorAbs (w : Addr) : Statement (.rorAbs w) := fun _ => rfl
theorem rraAbs (w : Addr) : Statement (.rraAbs w) := fun _ => rfl
theorem bvs (rel : Byte) : Statement (.bvs rel) := fun _ => rfl
theorem adcIzy (zp : Byte) : Statement (.adcIzy zp) := fun _ => rfl
theorem rraIzy (zp : Byte) : Statement (.rraIzy zp) := fun _ => rfl
theorem nop74 (zp : Byte) : Statement (.nop74 zp) := fun _ => rfl
theorem adcZpx (zp : Byte) : Statement (.adcZpx zp) := fun _ => rfl
theorem rorZpx (zp : Byte) : Statement (.rorZpx zp) := fun _ => rfl
theorem rraZpx (zp : Byte) : Statement (.rraZpx zp) := fun _ => rfl
theorem sei : Statement (.sei) := fun _ => rfl
theorem adcAby (w : Addr) : Statement (.adcAby w) := fun _ => rfl
theorem nop7A : Statement (.nop7A) := fun _ => rfl
theorem rraAby (w : Addr) : Statement (.rraAby w) := fun _ => rfl
theorem nop7C (w : Addr) : Statement (.nop7C w) := fun _ => rfl
theorem adcAbx (w : Addr) : Statement (.adcAbx w) := fun _ => rfl
theorem rorAbx (w : Addr) : Statement (.rorAbx w) := fun _ => rfl
theorem rraAbx (w : Addr) : Statement (.rraAbx w) := fun _ => rfl
theorem nop80 (imm : Byte) : Statement (.nop80 imm) := fun _ => rfl
theorem staIzx (zp : Byte) : Statement (.staIzx zp) := fun _ => rfl
theorem nop82 (imm : Byte) : Statement (.nop82 imm) := fun _ => rfl
theorem saxIzx (zp : Byte) : Statement (.saxIzx zp) := fun _ => rfl
theorem styZp0 (zp : Byte) : Statement (.styZp0 zp) := fun _ => rfl
theorem staZp0 (zp : Byte) : Statement (.staZp0 zp) := fun _ => rfl
theorem stxZp0 (zp : Byte) : Statement (.stxZp0 zp) := fun _ => rfl
theorem saxZp0 (zp : Byte) : Statement (.saxZp0 zp) := fun _ => rfl
theorem dey : Statement (.dey) := fun _ => rfl
theorem nop89 (imm : Byte) : Statement (.nop89 imm) := fun _ => rfl
theorem txa : Statement (.txa) := fun _ => rfl
theorem styAbs (w : Addr) : Statement (.styAbs w) := fun _ => rfl
theorem staAbs (w : Addr) : Statement (.staAbs w) := fun _ => rfl
theorem stxAbs (w : Addr) : Statement (.stxAbs w) := fun _ => rfl
theorem saxAbs (w : Addr) : Statement (.saxAbs w) := fun _ => rfl
theorem bcc (rel : Byte) : Statement (.bcc rel) := fun _ => rfl
theorem staIzy (zp : Byte) : Statement (.staIzy zp) := fun _ => rfl
theorem rsvIzy (zp : Byte) : Statement (.rsvIzy zp) := fun _ => rfl
theorem styZpx (zp : Byte) : Statement (.styZpx zp) := fun _ => rfl
theorem staZpx (zp : Byte) : Statement (.staZpx zp) := fun _ => rfl
theorem stxZpy (zp : Byte) : Statement (.stxZpy zp) := fun _ => rfl
theorem saxZpy (zp : Byte) : Statement (.saxZpy zp) := fun _ => rfl
theorem tya : Statement (.tya) := fun _ => rfl
theorem staAby (w : Addr) : Statement (.staAby w) := fun _ => rfl
theorem txs : Statement (.txs) := fun _ => rfl
theorem rsvAby (op : Byte) (w : Addr) : Statement (.rsvAby op w) := by
  have h : ∀ o : Byte, rsvAbyOpcodes.contains o = true → instrLength o = 3 := by decide +kernel
  exact fun hw => congrArg some (h op hw)
theorem rsvAbx (w : Addr) : Statement (.rsvAbx w) := fun _ => rfl
theorem staAbx (w : Addr) : Statement (.staAbx w) := fun _ => rfl
theorem ldyImm (imm : Byte) : Statement (.ldyImm imm) := fun _ => rfl
theorem ldaIzx (zp : Byte) : Statement (.ldaIzx zp) := fun _ => rfl
theorem ldxImm (imm : Byte) : Statement (.ldxImm imm) := fun _ => rfl
theorem laxIzx (zp : Byte) : Statement (.laxIzx zp) := fun _ => rfl
theorem ldyZp0 (zp : Byte) : Statement (.ldyZp0 zp) := fun _ => rfl
theorem ldaZp0 (zp : Byte) : Statement (.ldaZp0 zp) := fun _ => rfl
theorem ldxZp0 (zp : Byte) : Statement (.ldxZp0 zp) := fun _ => rfl
theorem laxZp0 (zp : Byte) : Statement (.laxZp0 zp) := fun _ => rfl
theorem tay : Statement (.tay) := fun _ => rfl
theorem ldaImm (imm : Byte) : Statement (.ldaImm imm) := fun _ => rfl
theorem tax : Statement (.tax) := fun _ => rfl
theorem ldyAbs (w : Addr) : Statement (.ldyAbs w) := fun _ => rfl
theorem ldaAbs (w : Addr) : Statement (.ldaAbs w) := fun _ => rfl
theorem ldxAbs (w : Addr) : Statement (.ldxAbs w) := fun _ => rfl
theorem laxAbs (w : Addr) : Statement (.laxAbs w) := fun _ => rfl
theorem bcs (rel : Byte) : Statement (.bcs rel) := fun _ => rfl
theorem ldaIzy (zp : Byte) : Statement (.ldaIzy zp) := fun _ => rfl
theorem laxIzy (zp : Byte) : Statement (.laxIzy zp) := fun _ => rfl
theorem ldyZpx (zp : Byte) : Statement (.ldyZpx zp) := fun _ => rfl
theorem ldaZpx (zp : Byte) : Statement (.ldaZpx zp) := fun _ => rfl
theorem ldxZpy (zp : Byte) : Statement (.ldxZpy zp) := fun _ => rfl
theorem laxZpy (zp : Byte) : Statement (.laxZpy zp) := fun _ => rfl
theorem clv : Statement (.clv) := fun _ => rfl
theorem ldaAby (w : Addr) : Statement (.ldaAby w) := fun _ => rfl
theorem tsx : Statement (.tsx) := fun _ => rfl
theorem ldyAbx (w : Addr) : Statement (.ldyAbx w) := fun _ => rfl
theorem ldaAbx (w : Addr) : Statement (.ldaAbx w) := fun _ => rfl
theorem ldxAby (w : Addr) : Statement (.ldxAby w) := fun _ => rfl
theorem laxAby (w : Addr) : Statement (.laxAby w) := fun _ => rfl
theorem cpyImm (imm : Byte) : Statement (.cpyImm imm) := fun _ => rfl
theorem cmpIzx (zp : Byte) : Statement (.cmpIzx zp) := fun _ => rfl
theorem nopC2 (imm : Byte) : Statement (.nopC2 imm) := fun _ => rfl
theorem dcpIzx (zp : Byte) : Statement (.dcpIzx zp) := fun _ => rfl
theorem cpyZp0 (zp : Byte) : Statement (.cpyZp0 zp) := fun _ => rfl
theorem cmpZp0 (zp : Byte) : Statement (.cmpZp0 zp) := fun _ => rfl
theorem decZp0 (zp : Byte) : Statement (.decZp0 zp) := fun _ => rfl
theorem dcpZp0 (zp : Byte) : Statement (.dcpZp0 zp) := fun _ => rfl
theorem iny : Statement (.iny) := fun _ => rfl
theorem cmpImm (imm : Byte) : Statement (.cmpImm imm) := fun _ => rfl
theorem dex : Statement (.dex) := fun _ => rfl
theorem cpyAbs (w : Addr) : Statement (.cpyAbs w) := fun _ => rfl
theorem cmpAbs (w : Addr) : Statement (.cmpAbs w) := fun _ => rfl
theorem decAbs (w : Addr) : Statement (.decAbs w) := fun _ => rfl
theorem dcpAbs (w : Addr) : Statement (.dcpAbs w) := fun _ => rfl
theorem bne (rel : Byte) : Statement (.bne rel) := fun _ => rfl
theorem cmpIzy (zp : Byte) : Statement (.cmpIzy zp) := fun _ => rfl
theorem dcpIzy (zp : Byte) : Statement (.dcpIzy zp) := fun _ => rfl
theorem nopD4 (zp : Byte) : Statement (.nopD4 zp) := fun _ => rfl
theorem cmpZpx (zp : Byte) : Statement (.cmpZpx zp) := fun _ => rfl
theorem decZpx (zp : Byte) : Statement (.decZpx zp) := fun _ => rfl
theorem dcpZpx (zp : Byte) : Statement (.dcpZpx zp) := fun _ => rfl
theorem cld : Statement (.cld) := fun _ => rfl
theorem cmpAby (w : Addr) : Statement (.cmpAby w) := fun _ => rfl
theorem nopDA : Statement (.nopDA) := fun _ => rfl
theorem dcpAby (w : Addr) : Statement (.dcpAby w) := fun _ => rfl
theorem nopDC (w : Addr) : Statement (.nopDC w) := fun _ => rfl
theorem cmpAbx (w : Addr) : Statement (.cmpAbx w) := fun _ => rfl
theorem decAbx (w : Addr) : Statement (.decAbx w) := fun _ => rfl
theorem dcpAbx (w : Addr) : Statement (.dcpAbx w) := fun _ => rfl
theorem cpxImm (imm : Byte) : Statement (.cpxImm imm) := fun _ => rfl
theorem sbcIzx (zp : Byte) : Statement (.sbcIzx zp) := fun _ => rfl
theorem nopE2 (imm : Byte) : Statement (.nopE2 imm) := fun _ => rfl
theorem iscIzx (zp : Byte) : Statement (.iscIzx zp) := fun _ => rfl
theorem cpxZp0 (zp : Byte) : Statement (.cpxZp0 zp) := fun _ => rfl
theorem sbcZp0 (zp : Byte) : Statement (.sbcZp0 zp) := fun _ => rfl
theorem incZp0 (zp : Byte) : Statement (.incZp0 zp) := fun _ => rfl
theorem iscZp0 (zp : Byte) : Statement (.iscZp0 zp) := fun _ => rfl
theorem inx : Statement (.inx) := fun _ => rfl
theorem sbcImm (imm : Byte) : Statement (.sbcImm imm) := fun _ => rfl
theorem nop : Statement (.nop) := fun _ => rfl
theorem sbcEB (imm : Byte) : Statement (.sbcEB imm) := fun _ => rfl
theorem cpxAbs (w : Addr) : Statement (.cpxAbs w) := fun _ => rfl
theorem sbcAbs (w : Addr) : Statement (.sbcAbs w) := fun _ => rfl
theorem incAbs (w : Addr) : Statement (.incAbs w) := fun _ => rfl
theorem iscAbs (w : Addr) : Statement (.iscAbs w) := fun _ => rfl
theorem beq (rel : Byte) : Statement (.beq rel) := fun _ => rfl
theorem sbcIzy (zp : Byte) : Statement (.sbcIzy zp) := fun _ => rfl
theorem iscIzy (zp : Byte) : Statement (.iscIzy zp) := fun _ => rfl
theorem nopF4 (zp : Byte) : Statement (.nopF4 zp) := fun _ => rfl
theorem sbcZpx (zp : Byte) : Statement (.sbcZpx zp) := fun _ => rfl
theorem incZpx (zp : Byte) : Statement (.incZpx zp) := fun _ => rfl
theorem iscZpx (zp : Byte) : Statement (.iscZpx zp) := fun _ => rfl
theorem sed : Statement (.sed) := fun _ => rfl
theorem sbcAby (w : Addr) : Statement (.sbcAby w) := fun _ => rfl
theorem nopFA : Statement (.nopFA) := fun _ => rfl
theorem iscAby (w : Addr) : Statement (.iscAby w) := fun _ => rfl
theorem nopFC (w : Addr) : Statement (.nopFC w) := fun _ => rfl
theorem sbcAbx (w : Addr) : Statement (.sbcAbx w) := fun _ => rfl
theorem incAbx (w : Addr) : Statement (.incAbx w) := fun _ => rfl
theorem iscAbx (w : Addr) : Statement (.iscAbx w) := fun _ => rfl

end Sys2Proof.Laws.EncodedLength
end

