-- ==== Sys2Proof/Laws/Pipeline.lean ====
section
/-! SUPPORT. What the steps of `PpuClock()` leave alone: a projection that every action keeps is kept by
the whole clock; the registers the CPU writes and the four memories are such projections. -/

namespace Sys2Proof.Machine

variable (c : Cartridge) (p : Ppu)

@[simp] theorem onlyIf_true (f : Ppu → Ppu) : onlyIf true f p = f p := rfl
@[simp] theorem onlyIf_false (f : Ppu → Ppu) : onlyIf false f p = p := rfl

/-- A property that an action keeps is kept by the action under a condition. -/
theorem onlyIf_keeps {P : Ppu → Prop} {b : Bool} {f : Ppu → Ppu} (h : ∀ q, P q → P (f q)) {q : Ppu}
    (hq : P q) : P (onlyIf b f q) := by
  unfold onlyIf; split
  · exact h q hq
  · exact hq

/-- The scroll updates change nothing but `v`. -/
theorem incX_eq : ∃ u, incX p = { p with v := u } := by unfold incX; split <;> exact ⟨_, rfl⟩
theorem incY_eq : ∃ u, incY p = { p with v := u } := by unfold incY; split <;> exact ⟨_, rfl⟩
theorem copyX_eq : ∃ u, copyX p = { p with v := u } := by unfold copyX; split <;> exact ⟨_, rfl⟩
theorem copyY_eq : ∃ u, copyY p = { p with v := u } := by unfold copyY; split <;> exact ⟨_, rfl⟩

/-- With rendering off the scroll updates do nothing. -/
theorem incX_off (h : p.renderingOn = false) : incX p = p := by unfold incX; simp [h]
theorem incY_off (h : p.renderingOn = false) : incY p = p := by unfold incY; simp [h]
theorem copyX_off (h : p.renderingOn = false) : copyX p = p := by unfold copyX; simp [h]
theorem copyY_off (h : p.renderingOn = false) : copyY p = p := by unfold copyY; simp [h]

/-- The background step changes nothing but the shifters, the latches and `v`. -/
theorem bgStep_eq (k : Nat) : ∃ v a b d e f g h i, bgStep c k p =
    { p with v := v, shPatLo := a, shPatHi := b, shAttLo := d, shAttHi := e, nxId := f, nxAtt := g,
             nxLo := h, nxHi := i } := by
  unfold bgStep bgPhase
  split
  · exact ⟨_, _, _, _, _, _, _, _, _, rfl⟩
  split
  · exact ⟨_, _, _, _, _, _, _, _, _, rfl⟩
  split
  · exact ⟨_, _, _, _, _, _, _, _, _, rfl⟩
  split
  · exact ⟨_, _, _, _, _, _, _, _, _, rfl⟩
  split
  · obtain ⟨u, hu⟩ := incX_eq (shiftBg p)
    exact ⟨u, _, _, _, _, _, _, _, _, hu⟩
  · exact ⟨_, _, _, _, _, _, _, _, _, rfl⟩

/-- `Advance()` changes nothing but the position. -/
theorem advance_eq : ∃ k s, advance p = { p with cycle := k, scanline := s } := by
  unfold advance; split <;> exact ⟨_, _, rfl⟩

/-- What the whole clock leaves alone: everything but the position, `v`, the three status flags, the
shifters, the latches, the sprite list, the NMI request and the frame buffer. -/
structure SameRegisters (p q : Ppu) : Prop where
  t : q.t = p.t
  fineX : q.fineX = p.fineX
  w : q.w = p.w
  dataBuffer : q.dataBuffer = p.dataBuffer
  ctrl : q.ctrl = p.ctrl
  mask : q.mask = p.mask
  oamAddr : q.oamAddr = p.oamAddr
  oam : q.oam = p.oam
  nt0 : q.nt0 = p.nt0
  nt1 : q.nt1 = p.nt1
  pal : q.pal = p.pal

theorem SameRegisters.rfl' : SameRegisters p p := ⟨rfl, rfl, rfl, rfl, rfl, rfl, rfl, rfl, rfl, rfl, rfl⟩

theorem SameRegisters.trans' {p q r : Ppu} (h : SameRegisters p q) (g : SameRegisters q r) :
    SameRegisters p r :=
  ⟨g.t.trans h.t, g.fineX.trans h.fineX, g.w.trans h.w, g.dataBuffer.trans h.dataBuffer,
   g.ctrl.trans h.ctrl, g.mask.trans h.mask, g.oamAddr.trans h.oamAddr, g.oam.trans h.oam,
   g.nt0.trans h.nt0, g.nt1.trans h.nt1, g.pal.trans h.pal⟩

theorem sameRegisters_v (u : BitVec 15) : SameRegisters p { p with v := u } :=
  ⟨rfl, rfl, rfl, rfl, rfl, rfl, rfl, rfl, rfl, rfl, rfl⟩

theorem sameRegisters_incY : SameRegisters p (incY p) := by
  obtain ⟨u, h⟩ := incY_eq p; rw [h]; exact sameRegisters_v p u

theorem sameRegisters_copyX : SameRegisters p (copyX p) := by
  obtain ⟨u, h⟩ := copyX_eq p; rw [h]; exact sameRegisters_v p u

theorem sameRegisters_copyY : SameRegisters p (copyY p) := by
  obtain ⟨u, h⟩ := copyY_eq p; rw [h]; exact sameRegisters_v p u

theorem sameRegisters_bgStep (k : Nat) : SameRegisters p (bgStep c k p) := by
  obtain ⟨_, _, _, _, _, _, _, _, _, h⟩ := bgStep_eq c p k
  rw [h]; exact ⟨rfl, rfl, rfl, rfl, rfl, rfl, rfl, rfl, rfl, rfl, rfl⟩

theorem sameRegisters_onlyIf {b : Bool} {f : Ppu → Ppu} (h : ∀ q, SameRegisters q (f q)) :
    SameRegisters p (onlyIf b f p) := by
  unfold onlyIf; split
  · exact h p
  · exact SameRegisters.rfl' p

theorem sameRegisters_renderSteps (s : Int) (k : Nat) : SameRegisters p (renderSteps c s k p) := by
  unfold renderSteps
  refine SameRegisters.trans' ?_ (sameRegisters_onlyIf _ fun q => ?_)
  refine SameRegisters.trans' ?_ (sameRegisters_onlyIf _ sameRegisters_copyY)
  refine SameRegisters.trans' ?_ (sameRegisters_onlyIf _ fun q => ?_)
  refine SameRegisters.trans' ?_ (sameRegisters_onlyIf _ sameRegisters_incY)
  refine SameRegisters.trans' ?_ (sameRegisters_onlyIf _ fun q => sameRegisters_bgStep c q k)
  refine sameRegisters_onlyIf _ fun q => ?_
  · exact ⟨rfl, rfl, rfl, rfl, rfl, rfl, rfl, rfl, rfl, rfl, rfl⟩
  · exact SameRegisters.trans' (q := loadShifters q)
      ⟨rfl, rfl, rfl, rfl, rfl, rfl, rfl, rfl, rfl, rfl, rfl⟩ (sameRegisters_copyX _)
  · exact ⟨rfl, rfl, rfl, rfl, rfl, rfl, rfl, rfl, rfl, rfl, rfl⟩

/-- No register the CPU writes and no memory of the picture processor changes in a clock (`63` R561). -/
theorem sameRegisters_ppuClock : SameRegisters p (ppuClock c p) := by
  unfold ppuClock
  have ha : ∀ q, SameRegisters q (advance q) := fun q => by
    obtain ⟨_, _, h⟩ := advance_eq q
    rw [h]; exact ⟨rfl, rfl, rfl, rfl, rfl, rfl, rfl, rfl, rfl, rfl, rfl⟩
  refine SameRegisters.trans' ?_ (ha _)
  refine SameRegisters.trans' ?_ (sameRegisters_onlyIf _ fun q => ?_)
  refine SameRegisters.trans' ?_ (sameRegisters_onlyIf _ fun q => ?_)
  exact sameRegisters_onlyIf _ fun q => sameRegisters_renderSteps c q _ _
  · exact ⟨rfl, rfl, rfl, rfl, rfl, rfl, rfl, rfl, rfl, rfl, rfl⟩
  · exact ⟨rfl, rfl, rfl, rfl, rfl, rfl, rfl, rfl, rfl, rfl, rfl⟩

/-! ### The matching objects of a scanline -/

theorem spriteMatches_pairwise (s : Int) : (spriteMatches p s).Pairwise (fun i j => i < j) :=
  (List.pairwise_lt_finRange 64).filter _

theorem spriteEval_pairwise (s : Int) : (spriteEval s p).sprList.Pairwise (fun i j => i < j) :=
  (spriteMatches_pairwise p s).sublist (List.take_sublist 8 _)

theorem spriteEval_length (s : Int) : (spriteEval s p).sprList.length ≤ 8 :=
  List.length_take_le 8 _

end Sys2Proof.Machine
end

