-- ==== Sys2Proof/Laws/Step.lean ====
section
/-! SUPPORT. One step taken apart: what `andThen` passes on, the cases of the body of a tick and of its
end, what fetching leaves alone. -/

namespace Sys2Proof.Machine

variable (s : State)

@[simp] theorem andThen_next (f : State → Out) : andThen (.next s) f = f s := rfl

/-- A next state behind `andThen` comes from a next state. -/
theorem andThen_eq_next {o : Out} {f : State → Out} {t : State} (h : andThen o f = .next t) :
    ∃ u, o = .next u ∧ f u = .next t := by
  cases o with
  | next u => exact ⟨u, rfl, h⟩
  | fault r => cases h
  | refused r => cases h

/-- A step that answers a next state: the body of the tick, then its end. -/
theorem step_eq_next {t : State} (h : step s = .next t) :
    ∃ u, tickBody s = .next u ∧ tickEnd u = .next t :=
  andThen_eq_next h

/-- The body of a tick: the picture processor, then the processor slot on one tick in three. -/
theorem tickBody_eq :
    tickBody s =
      if s.master % 3 = 0 then processorSlot s.master (ppuTick s) else .next (ppuTick s) := by
  unfold tickBody audioClock
  simp only [ite_self]
  rfl

/-- The processor slot while a transfer is active. -/
theorem processorSlot_dma (m : Nat) (h : s.dma.active = true) :
    processorSlot m s = .next (dmaStep m s) := by
  unfold processorSlot; simp [h]

/-- The processor slot of the CPU. -/
theorem processorSlot_cpu (m : Nat) (h : s.dma.active = false) : processorSlot m s = clock s := by
  unfold processorSlot; simp [h]

/-- A slot that only counts down. -/
theorem clock_waits (hj : s.jammed = false) (hc : s.cycles ≠ 0) :
    clock s = .next (s.setCycles (s.cycles - 1)) := by
  unfold clock countDown; simp [hj, hc]

/-- A slot that executes. -/
theorem clock_executes (hj : s.jammed = false) (hc : s.cycles = 0) :
    clock s = andThen (exec (fetch s).1 (fetch s).2) (fun t => .next (countDown t)) := by
  unfold clock; simp [hj, hc]

/-- A Jammed CPU does nothing (log 5). -/
theorem clock_jammed (hj : s.jammed = true) : clock s = .next s := by
  unfold clock; simp [hj]

/-- The end of a tick with nothing to deliver. -/
theorem tickEnd_quiet
    (hr : s.requests.headD { reset := false, irq := false } = { reset := false, irq := false })
    (hn : s.ppu.nmiRequest = false) :
    tickEnd s = .next ((s.setMaster (s.master + 1)).setRequests s.requests.tail) := by
  unfold tickEnd intSelect
  rw [hr]
  simp [hn]

/-- Everything the end of a tick can answer. -/
theorem tickEnd_cases {t : State} (h : tickEnd s = .next t) :
    let u := (s.setMaster (s.master + 1)).setRequests s.requests.tail
    t = systemReset u
      ∨ (s.ppu.nmiRequest = true ∧ t = deliver nmi (u.setPpu { s.ppu with nmiRequest := false }))
      ∨ (s.ppu.nmiRequest = false ∧ s.flag .i = false ∧ t = deliver irq u)
      ∨ (s.ppu.nmiRequest = false ∧ t = u) := by
  obtain rfl := Host.Outcome.next.inj h
  dsimp only [intSelect]
  split
  · exact .inl rfl
  split
  · exact .inr (.inl ⟨‹_›, rfl⟩)
  rename_i hn
  have hn' : s.ppu.nmiRequest = false := by simpa using hn
  split
  · rename_i hi
    have hi' := ((Bool.and_eq_true _ _).mp hi).2
    simp only [Bool.not_eq_true'] at hi'
    exact .inr (.inr (.inl ⟨hn', hi', rfl⟩))
  · exact .inr (.inr (.inr ⟨hn', rfl⟩))

/-- The end of a tick always answers a next state. -/
theorem tickEnd_next : ∃ t, tickEnd s = .next t := ⟨_, rfl⟩

/-! A delivered interrupt is its entry, and the CPU is Jammed no longer. -/

@[simp] theorem deliver_jammed (f : State → State) : (deliver f s).jammed = false := rfl
@[simp] theorem deliver_of_running (f : State → State) (h : (f s).jammed = false) :
    deliver f s = f s := by
  unfold deliver State.setJammed; rw [← h]

/-! `StepInstruction`: one turn of its loop. -/

theorem drainInstruction_succ (fuel : Nat) (seen : Bool) {t : State} (h : tick s = .next t) :
    drainInstruction (fuel + 1) seen s =
      if (seen || decide (0 < t.cycles)) && decide (t.cycles = 0) then some (.next t)
      else drainInstruction fuel (seen || decide (0 < t.cycles)) t := by
  rw [drainInstruction, h]

/-- One byte of the stream: `PC` moves, the rest is the bus read. -/
theorem fetchByte_eq : fetchByte s = (busValue s s.pc, (busEffect s s.pc).setPc (s.pc + 1)) := rfl

/-! The picture processor's clock on the machine changes the picture processor alone. -/

@[simp] theorem ppuTick_ppu : (ppuTick s).ppu = ppuClock s.cart s.ppu := rfl
@[simp] theorem ppuTick_cart : (ppuTick s).cart = s.cart := rfl
@[simp] theorem ppuTick_ram : (ppuTick s).ram = s.ram := rfl
@[simp] theorem ppuTick_pc : (ppuTick s).pc = s.pc := rfl
@[simp] theorem ppuTick_p : (ppuTick s).p = s.p := rfl
@[simp] theorem ppuTick_cycles : (ppuTick s).cycles = s.cycles := rfl
@[simp] theorem ppuTick_jammed : (ppuTick s).jammed = s.jammed := rfl
@[simp] theorem ppuTick_dma : (ppuTick s).dma = s.dma := rfl
@[simp] theorem ppuTick_master : (ppuTick s).master = s.master := rfl
@[simp] theorem ppuTick_requests : (ppuTick s).requests = s.requests := rfl

end Sys2Proof.Machine
end

