-- ==== Sys2Proof/Tests/Slice0.lean ====
section
/-! SUPPORT. The package's own tests: ill-formed terms refused, decoding of words written out from
`spec/30_encoding.md` R101 and R110, one step per test vector of `spec/95_test_vectors.md`, and for every
statement with hypotheses a witness that meets them. -/

namespace Sys2Proof.Tests

set_option Elab.async false

open Sys2Proof Sys2Proof.Machine Sys2Proof.Rule

/-! ## Well-formedness: one ill-formed term per check -/

theorem test_wf_stp_refuses_another_opcode : (Instr.stp 0x01#8).wellFormed = false := by decide
theorem test_wf_rsvImm_refuses_another_opcode : (Instr.rsvImm 0x69#8 0x00#8).wellFormed = false := by
  decide
theorem test_wf_rsvAby_refuses_another_opcode : (Instr.rsvAby 0x99#8 0x0000#16).wellFormed = false := by
  decide

/-- A header with given program banks, pattern banks and flag bytes. -/
def header (prg chr f6 f7 : Byte) : List Byte :=
  [0x4E#8, 0x45#8, 0x53#8, 0x1A#8, prg, chr, f6, f7, 0#8, 0#8, 0#8, 0#8, 0#8, 0#8, 0#8, 0#8]

theorem test_wf_rom_without_signature : romSignatureOk [0x4E#8, 0x45#8, 0x53#8, 0x00#8] = false := by
  decide
theorem test_wf_rom_with_mapper_1 : romMapperOk (header 1#8 1#8 0x10#8 0x00#8) = false := by decide
theorem test_wf_rom_with_mapper_32 : romMapperOk (header 1#8 1#8 0x00#8 0x20#8) = false := by decide
theorem test_wf_rom_without_program : romProgramOk (header 0#8 1#8 0x00#8 0x00#8) = false := by decide
theorem test_wf_rom_too_short : romLengthOk (header 1#8 0#8 0x00#8 0x00#8) = false := by decide
/-- A file is turned away for the given fault. -/
def loadFaults (f : List Byte) (r : Fault) : Bool :=
  match loadCartridge [] f with
  | .fault q => q == r
  | _ => false

/-- A file is refused for the given reason. -/
def loadRefused (f : List Byte) (r : Refusal) : Bool :=
  match loadCartridge [] f with
  | .refused q => q == r
  | _ => false

/-- One file per check of the load. -/
theorem test_load_turns_away :
    loadFaults [0x00#8] .badSignature = true
    ∧ loadFaults (header 1#8 1#8 0x10#8 0x00#8) .unknownMapper = true
    ∧ loadRefused (header 0#8 1#8 0x00#8 0x00#8) .noProgramBank = true
    ∧ loadRefused (header 1#8 0#8 0x00#8 0x00#8) .shortFile = true := by
  decide +kernel

/-! ## Decoding: the 256 opcodes by row of the opcode table, the operand bytes 0x34 0x12 behind each -/

theorem test_decode_00 :
    [(8, 0x00), (16, 0x3401), (8, 0x02), (16, 0x3403), (16, 0x3404), (16, 0x3405), (16, 0x3406),
     (16, 0x3407), (8, 0x08), (16, 0x3409), (8, 0x0A), (16, 0x340B), (24, 0x12340C), (24, 0x12340D),
     (24, 0x12340E), (24, 0x12340F)].map (fun e : Nat × Nat => decodeTableWord e.1 e.2) =
      [.brk, .oraIzx 0x34#8, .stp 0x02#8, .sloIzx 0x34#8, .nop04 0x34#8, .oraZp0 0x34#8, .aslZp0 0x34#8,
       .sloZp0 0x34#8, .php, .oraImm 0x34#8, .aslAcc, .anc0B 0x34#8, .nop0C 0x1234#16,
       .oraAbs 0x1234#16, .aslAbs 0x1234#16, .sloAbs 0x1234#16].map some := by
  decide +kernel

theorem test_decode_10 :
    [(16, 0x3410), (16, 0x3411), (8, 0x12), (16, 0x3413), (16, 0x3414), (16, 0x3415), (16, 0x3416),
     (16, 0x3417), (8, 0x18), (24, 0x123419), (8, 0x1A), (24, 0x12341B), (24, 0x12341C), (24, 0x12341D),
     (24, 0x12341E), (24, 0x12341F)].map (fun e : Nat × Nat => decodeTableWord e.1 e.2) =
      [.bpl 0x34#8, .oraIzy 0x34#8, .stp 0x12#8, .sloIzy 0x34#8, .nop14 0x34#8, .oraZpx 0x34#8,
       .aslZpx 0x34#8, .sloZpx 0x34#8, .clc, .oraAby 0x1234#16, .nop1A, .sloAby 0x1234#16,
       .nop1C 0x1234#16, .oraAbx 0x1234#16, .aslAbx 0x1234#16, .sloAbx 0x1234#16].map some := by
  decide +kernel

theorem test_decode_20 :
    [(24, 0x123420), (16, 0x3421), (8, 0x22), (16, 0x3423), (16, 0x3424), (16, 0x3425), (16, 0x3426),
     (16, 0x3427), (8, 0x28), (16, 0x3429), (8, 0x2A), (16, 0x342B), (24, 0x12342C), (24, 0x12342D),
     (24, 0x12342E), (24, 0x12342F)].map (fun e : Nat × Nat => decodeTableWord e.1 e.2) =
      [.jsrAbs 0x1234#16, .andIzx 0x34#8, .stp 0x22#8, .rlaIzx 0x34#8, .bitZp0 0x34#8, .andZp0 0x34#8,
       .rolZp0 0x34#8, .rlaZp0 0x34#8, .plp, .andImm 0x34#8, .rolAcc, .anc2B 0x34#8, .bitAbs 0x1234#16,
       .andAbs 0x1234#16, .rolAbs 0x1234#16, .rlaAbs 0x1234#16].map some := by
  decide +kernel

theorem test_decode_30 :
    [(16, 0x3430), (16, 0x3431), (8, 0x32), (16, 0x3433), (16, 0x3434), (16, 0x3435), (16, 0x3436),
     (16, 0x3437), (8, 0x38), (24, 0x123439), (8, 0x3A), (24, 0x12343B), (24, 0x12343C), (24, 0x12343D),
     (24, 0x12343E), (24, 0x12343F)].map (fun e : Nat × Nat => decodeTableWord e.1 e.2) =
      [.bmi 0x34#8, .andIzy 0x34#8, .stp 0x32#8, .rlaIzy 0x34#8, .nop34 0x34#8, .andZpx 0x34#8,
       .rolZpx 0x34#8, .rlaZpx 0x34#8, .sec, .andAby 0x1234#16, .nop3A, .rlaAby 0x1234#16,
       .nop3C 0x1234#16, .andAbx 0x1234#16, .rolAbx 0x1234#16, .rlaAbx 0x1234#16].map some := by
  decide +kernel

theorem test_decode_40 :
    [(8, 0x40), (16, 0x3441), (8, 0x42), (16, 0x3443), (16, 0x3444), (16, 0x3445), (16, 0x3446),
     (16, 0x3447), (8, 0x48), (16, 0x3449), (8, 0x4A), (16, 0x344B), (24, 0x12344C), (24, 0x12344D),
     (24, 0x12344E), (24, 0x12344F)].map (fun e : Nat × Nat => decodeTableWord e.1 e.2) =
      [.rti, .eorIzx 0x34#8, .stp 0x42#8, .sreIzx 0x34#8, .nop44 0x34#8, .eorZp0 0x34#8, .lsrZp0 0x34#8,
       .sreZp0 0x34#8, .pha, .eorImm 0x34#8, .lsrAcc, .alrImm 0x34#8, .jmpAbs 0x1234#16,
       .eorAbs 0x1234#16, .lsrAbs 0x1234#16, .sreAbs 0x1234#16].map some := by
  decide +kernel

theorem test_decode_50 :
    [(16, 0x3450), (16, 0x3451), (8, 0x52), (16, 0x3453), (16, 0x3454), (16, 0x3455), (16, 0x3456),
     (16, 0x3457), (8, 0x58), (24, 0x123459), (8, 0x5A), (24, 0x12345B), (24, 0x12345C), (24, 0x12345D),
     (24, 0x12345E), (24, 0x12345F)].map (fun e : Nat × Nat => decodeTableWord e.1 e.2) =
      [.bvc 0x34#8, .eorIzy 0x34#8, .stp 0x52#8, .sreIzy 0x34#8, .nop54 0x34#8, .eorZpx 0x34#8,
       .lsrZpx 0x34#8, .sreZpx 0x34#8, .cli, .eorAby 0x1234#16, .nop5A, .sreAby 0x1234#16,
       .nop5C 0x1234#16, .eorAbx 0x1234#16, .lsrAbx 0x1234#16, .sreAbx 0x1234#16].map some := by
  decide +kernel

theorem test_decode_60 :
    [(8, 0x60), (16, 0x3461), (8, 0x62), (16, 0x3463), (16, 0x3464), (16, 0x3465), (16, 0x3466),
     (16, 0x3467), (8, 0x68), (16, 0x3469), (8, 0x6A), (16, 0x346B), (24, 0x12346C), (24, 0x12346D),
     (24, 0x12346E), (24, 0x12346F)].map (fun e : Nat × Nat => decodeTableWord e.1 e.2) =
      [.rts, .adcIzx 0x34#8, .stp 0x62#8, .rraIzx 0x34#8, .nop64 0x34#8, .adcZp0 0x34#8, .rorZp0 0x34#8,
       .rraZp0 0x34#8, .pla, .adcImm 0x34#8, .rorAcc, .rsvImm 0x6B#8 0x34#8, .jmpInd 0x1234#16,
       .adcAbs 0x1234#16, .rorAbs 0x1234#16, .rraAbs 0x1234#16].map some := by
  decide +kernel

theorem test_decode_70 :
    [(16, 0x3470), (16, 0x3471), (8, 0x72), (16, 0x3473), (16, 0x3474), (16, 0x3475), (16, 0x3476),
     (16, 0x3477), (8, 0x78), (24, 0x123479), (8, 0x7A), (24, 0x12347B), (24, 0x12347C), (24, 0x12347D),
     (24, 0x12347E), (24, 0x12347F)].map (fun e : Nat × Nat => decodeTableWord e.1 e.2) =
      [.bvs 0x34#8, .adcIzy 0x34#8, .stp 0x72#8, .rraIzy 0x34#8, .nop74 0x34#8, .adcZpx 0x34#8,
       .rorZpx 0x34#8, .rraZpx 0x34#8, .sei, .adcAby 0x1234#16, .nop7A, .rraAby 0x1234#16,
       .nop7C 0x1234#16, .adcAbx 0x1234#16, .rorAbx 0x1234#16, .rraAbx 0x1234#16].map some := by
  decide +kernel

theorem test_decode_80 :
    [(16, 0x3480), (16, 0x3481), (16, 0x3482), (16, 0x3483), (16, 0x3484), (16, 0x3485), (16, 0x3486),
     (16, 0x3487), (8, 0x88), (16, 0x3489), (8, 0x8A), (16, 0x348B), (24, 0x12348C), (24, 0x12348D),
     (24, 0x12348E), (24, 0x12348F)].map (fun e : Nat × Nat => decodeTableWord e.1 e.2) =
      [.nop80 0x34#8, .staIzx 0x34#8, .nop82 0x34#8, .saxIzx 0x34#8, .styZp0 0x34#8, .staZp0 0x34#8,
       .stxZp0 0x34#8, .saxZp0 0x34#8, .dey, .nop89 0x34#8, .txa, .rsvImm 0x8B#8 0x34#8,
       .styAbs 0x1234#16, .staAbs 0x1234#16, .stxAbs 0x1234#16, .saxAbs 0x1234#16].map some := by
  decide +kernel

theorem test_decode_90 :
    [(16, 0x3490), (16, 0x3491), (8, 0x92), (16, 0x3493), (16, 0x3494), (16, 0x3495), (16, 0x3496),
     (16, 0x3497), (8, 0x98), (24, 0x123499), (8, 0x9A), (24, 0x12349B), (24, 0x12349C), (24, 0x12349D),
     (24, 0x12349E), (24, 0x12349F)].map (fun e : Nat × Nat => decodeTableWord e.1 e.2) =
      [.bcc 0x34#8, .staIzy 0x34#8, .stp 0x92#8, .rsvIzy 0x34#8, .styZpx 0x34#8, .staZpx 0x34#8,
       .stxZpy 0x34#8, .saxZpy 0x34#8, .tya, .staAby 0x1234#16, .txs, .rsvAby 0x9B#8 0x1234#16,
       .rsvAbx 0x1234#16, .staAbx 0x1234#16, .rsvAby 0x9E#8 0x1234#16,
       .rsvAby 0x9F#8 0x1234#16].map some := by
  decide +kernel

theorem test_decode_A0 :
    [(16, 0x34A0), (16, 0x34A1), (16, 0x34A2), (16, 0x34A3), (16, 0x34A4), (16, 0x34A5), (16, 0x34A6),
     (16, 0x34A7), (8, 0xA8), (16, 0x34A9), (8, 0xAA), (16, 0x34AB), (24, 0x1234AC), (24, 0x1234AD),
     (24, 0x1234AE), (24, 0x1234AF)].map (fun e : Nat × Nat => decodeTableWord e.1 e.2) =
      [.ldyImm 0x34#8, .ldaIzx 0x34#8, .ldxImm 0x34#8, .laxIzx 0x34#8, .ldyZp0 0x34#8, .ldaZp0 0x34#8,
       .ldxZp0 0x34#8, .laxZp0 0x34#8, .tay, .ldaImm 0x34#8, .tax, .rsvImm 0xAB#8 0x34#8,
       .ldyAbs 0x1234#16, .ldaAbs 0x1234#16, .ldxAbs 0x1234#16, .laxAbs 0x1234#16].map some := by
  decide +kernel

theorem test_decode_B0 :
    [(16, 0x34B0), (16, 0x34B1), (8, 0xB2), (16, 0x34B3), (16, 0x34B4), (16, 0x34B5), (16, 0x34B6),
     (16, 0x34B7), (8, 0xB8), (24, 0x1234B9), (8, 0xBA), (24, 0x1234BB), (24, 0x1234BC), (24, 0x1234BD),
     (24, 0x1234BE), (24, 0x1234BF)].map (fun e : Nat × Nat => decodeTableWord e.1 e.2) =
      [.bcs 0x34#8, .ldaIzy 0x34#8, .stp 0xB2#8, .laxIzy 0x34#8, .ldyZpx 0x34#8, .ldaZpx 0x34#8,
       .ldxZpy 0x34#8, .laxZpy 0x34#8, .clv, .ldaAby 0x1234#16, .tsx, .rsvAby 0xBB#8 0x1234#16,
       .ldyAbx 0x1234#16, .ldaAbx 0x1234#16, .ldxAby 0x1234#16, .laxAby 0x1234#16].map some := by
  decide +kernel

theorem test_decode_C0 :
    [(16, 0x34C0), (16, 0x34C1), (16, 0x34C2), (16, 0x34C3), (16, 0x34C4), (16, 0x34C5), (16, 0x34C6),
     (16, 0x34C7), (8, 0xC8), (16, 0x34C9), (8, 0xCA), (16, 0x34CB), (24, 0x1234CC), (24, 0x1234CD),
     (24, 0x1234CE), (24, 0x1234CF)].map (fun e : Nat × Nat => decodeTableWord e.1 e.2) =
      [.cpyImm 0x34#8, .cmpIzx 0x34#8, .nopC2 0x34#8, .dcpIzx 0x34#8, .cpyZp0 0x34#8, .cmpZp0 0x34#8,
       .decZp0 0x34#8, .dcpZp0 0x34#8, .iny, .cmpImm 0x34#8, .dex, .rsvImm 0xCB#8 0x34#8,
       .cpyAbs 0x1234#16, .cmpAbs 0x1234#16, .decAbs 0x1234#16, .dcpAbs 0x1234#16].map some := by
  decide +kernel

theorem test_decode_D0 :
    [(16, 0x34D0), (16, 0x34D1), (8, 0xD2), (16, 0x34D3), (16, 0x34D4), (16, 0x34D5), (16, 0x34D6),
     (16, 0x34D7), (8, 0xD8), (24, 0x1234D9), (8, 0xDA), (24, 0x1234DB), (24, 0x1234DC), (24, 0x1234DD),
     (24, 0x1234DE), (24, 0x1234DF)].map (fun e : Nat × Nat => decodeTableWord e.1 e.2) =
      [.bne 0x34#8, .cmpIzy 0x34#8, .stp 0xD2#8, .dcpIzy 0x34#8, .nopD4 0x34#8, .cmpZpx 0x34#8,
       .decZpx 0x34#8, .dcpZpx 0x34#8, .cld, .cmpAby 0x1234#16, .nopDA, .dcpAby 0x1234#16,
       .nopDC 0x1234#16, .cmpAbx 0x1234#16, .decAbx 0x1234#16, .dcpAbx 0x1234#16].map some := by
  decide +kernel

theorem test_decode_E0 :
    [(16, 0x34E0), (16, 0x34E1), (16, 0x34E2), (16, 0x34E3), (16, 0x34E4), (16, 0x34E5), (16, 0x34E6),
     (16, 0x34E7), (8, 0xE8), (16, 0x34E9), (8, 0xEA), (16, 0x34EB), (24, 0x1234EC), (24, 0x1234ED),
     (24, 0x1234EE), (24, 0x1234EF)].map (fun e : Nat × Nat => decodeTableWord e.1 e.2) =
      [.cpxImm 0x34#8, .sbcIzx 0x34#8, .nopE2 0x34#8, .iscIzx 0x34#8, .cpxZp0 0x34#8, .sbcZp0 0x34#8,
       .incZp0 0x34#8, .iscZp0 0x34#8, .inx, .sbcImm 0x34#8, .nop, .sbcEB 0x34#8, .cpxAbs 0x1234#16,
       .sbcAbs 0x1234#16, .incAbs 0x1234#16, .iscAbs 0x1234#16].map some := by
  decide +kernel

theorem test_decode_F0 :
    [(16, 0x34F0), (16, 0x34F1), (8, 0xF2), (16, 0x34F3), (16, 0x34F4), (16, 0x34F5), (16, 0x34F6),
     (16, 0x34F7), (8, 0xF8), (24, 0x1234F9), (8, 0xFA), (24, 0x1234FB), (24, 0x1234FC), (24, 0x1234FD),
     (24, 0x1234FE), (24, 0x1234FF)].map (fun e : Nat × Nat => decodeTableWord e.1 e.2) =
      [.beq 0x34#8, .sbcIzy 0x34#8, .stp 0xF2#8, .iscIzy 0x34#8, .nopF4 0x34#8, .sbcZpx 0x34#8,
       .incZpx 0x34#8, .iscZpx 0x34#8, .sed, .sbcAby 0x1234#16, .nopFA, .iscAby 0x1234#16,
       .nopFC 0x1234#16, .sbcAbx 0x1234#16, .incAbx 0x1234#16, .iscAbx 0x1234#16].map some := by
  decide +kernel

/-! ## One step of an instruction: test vectors of `spec/95_test_vectors.md`, sections 2.1 to 2.7 -/

/-- A byte placed in RAM (through its mirrors) or in program memory. -/
def put (s : State) (c : Nat × Byte) : State :=
  if c.1 < 0x2000 then s.setRam (Memory.write s.ram (c.1 % 2048) c.2)
  else s.setCart { s.cart with prg := Memory.write s.cart.prg (c.1 % 32768) c.2 }

/-- The flat test machine: an instruction at `org`, registers, some bytes of memory. -/
def machine (org : Addr) (a x y sp p : Byte) (code : List Byte) (mem : List (Nat × Byte)) : State :=
  (mem ++ code.zipIdx.map (fun c => (org.toNat + c.2, c.1))).foldl put
    { State.reset with pc := org, a := a, x := x, y := y, sp := sp, p := p, cycles := 0 }

/-- What a vector gives: A, X, Y, S, PC, P, the cycles, and some bytes of RAM. -/
structure Seen where
  a : Byte
  x : Byte
  y : Byte
  sp : Byte
  pc : Addr
  p : Byte
  cycles : Nat
  ram : List Byte
  deriving DecidableEq, Repr

/-- One step, and what is seen of it; the vector's cycle count is one more than what is left. -/
def seen (keys : List Nat) (s : State) : Option Seen :=
  match step s with
  | .next t =>
    some ⟨t.a, t.x, t.y, t.sp, t.pc, t.p, t.cycles + 1,
      keys.map (fun k => Memory.read t.ram (k % 2048))⟩
  | _ => none

/-- A4, A7, A12, L3. -/
theorem test_loads :
    seen [] (machine 0x8000#16 0x00#8 0x00#8 0x01#8 0xFD#8 0x20#8
        [0xB6#8, 0xFF#8] [(0x0000, 0x7F#8), (0x0100, 0xEE#8)])
      = some ⟨0x00#8, 0x7F#8, 0x01#8, 0xFD#8, 0x8002#16, 0x20#8, 4, []⟩
    ∧ seen [] (machine 0x8000#16 0x00#8 0x10#8 0x00#8 0xFD#8 0x20#8
        [0xBD#8, 0xF0#8, 0x12#8] [(0x1300, 0x22#8)])
      = some ⟨0x22#8, 0x10#8, 0x00#8, 0xFD#8, 0x8003#16, 0x20#8, 5, []⟩
    ∧ seen [] (machine 0x8000#16 0x00#8 0x00#8 0x01#8 0xFD#8 0x20#8
        [0xB1#8, 0x10#8] [(0x0010, 0xFF#8), (0x0011, 0x02#8), (0x0300, 0x66#8)])
      = some ⟨0x66#8, 0x00#8, 0x01#8, 0xFD#8, 0x8002#16, 0x20#8, 6, []⟩
    ∧ seen [] (machine 0x8000#16 0x00#8 0x00#8 0x00#8 0xFD#8 0xA2#8 [0xA0#8, 0x7F#8] [])
      = some ⟨0x00#8, 0x00#8, 0x7F#8, 0xFD#8, 0x8002#16, 0x20#8, 2, []⟩ := by
  decide +kernel

/-- A9, L5, L6. -/
theorem test_stores :
    seen [0x1300] (machine 0x8000#16 0x5A#8 0x10#8 0x00#8 0xFD#8 0x20#8
        [0x9D#8, 0xF0#8, 0x12#8] [])
      = some ⟨0x5A#8, 0x10#8, 0x00#8, 0xFD#8, 0x8003#16, 0x20#8, 5, [0x5A#8]⟩
    ∧ seen [0x07FF] (machine 0x8000#16 0x00#8 0xAB#8 0x00#8 0xFD#8 0x20#8
        [0x8E#8, 0xFF#8, 0x07#8] [])
      = some ⟨0x00#8, 0xAB#8, 0x00#8, 0xFD#8, 0x8003#16, 0x20#8, 4, [0xAB#8]⟩
    ∧ seen [0x0001] (machine 0x8000#16 0x00#8 0x02#8 0xCD#8 0xFD#8 0x20#8 [0x94#8, 0xFF#8] [])
      = some ⟨0x00#8, 0x02#8, 0xCD#8, 0xFD#8, 0x8002#16, 0x20#8, 4, [0xCD#8]⟩ := by
  decide +kernel

/-- L7, L8, L9, L10, L11, L12. -/
theorem test_transfers :
    seen [] (machine 0x8000#16 0x00#8 0x55#8 0x00#8 0xFD#8 0x20#8 [0xAA#8] [])
      = some ⟨0x00#8, 0x00#8, 0x00#8, 0xFD#8, 0x8001#16, 0x22#8, 2, []⟩
    ∧ seen [] (machine 0x8000#16 0x90#8 0x00#8 0x00#8 0xFD#8 0x20#8 [0xA8#8] [])
      = some ⟨0x90#8, 0x00#8, 0x90#8, 0xFD#8, 0x8001#16, 0xA0#8, 2, []⟩
    ∧ seen [] (machine 0x8000#16 0xFF#8 0x01#8 0x00#8 0xFD#8 0xA0#8 [0x8A#8] [])
      = some ⟨0x01#8, 0x01#8, 0x00#8, 0xFD#8, 0x8001#16, 0x20#8, 2, []⟩
    ∧ seen [] (machine 0x8000#16 0x00#8 0x00#8 0xFF#8 0xFD#8 0x20#8 [0x98#8] [])
      = some ⟨0xFF#8, 0x00#8, 0xFF#8, 0xFD#8, 0x8001#16, 0xA0#8, 2, []⟩
    ∧ seen [] (machine 0x8000#16 0x00#8 0x00#8 0x00#8 0xFD#8 0x20#8 [0xBA#8] [])
      = some ⟨0x00#8, 0xFD#8, 0x00#8, 0xFD#8, 0x8001#16, 0xA0#8, 2, []⟩
    ∧ seen [] (machine 0x8000#16 0x00#8 0x00#8 0x00#8 0xFD#8 0x20#8 [0x9A#8] [])
      = some ⟨0x00#8, 0x00#8, 0x00#8, 0x00#8, 0x8001#16, 0x20#8, 2, []⟩ := by
  decide +kernel

/-- AD3, AD5, SB4, SB8, X13. -/
theorem test_adc_sbc :
    seen [] (machine 0x8000#16 0x80#8 0x00#8 0x00#8 0xFD#8 0x20#8 [0x69#8, 0xFF#8] [])
      = some ⟨0x7F#8, 0x00#8, 0x00#8, 0xFD#8, 0x8002#16, 0x61#8, 2, []⟩
    ∧ seen [] (machine 0x8000#16 0xFF#8 0x00#8 0x00#8 0xFD#8 0x21#8 [0x69#8, 0xFF#8] [])
      = some ⟨0xFF#8, 0x00#8, 0x00#8, 0xFD#8, 0x8002#16, 0xA1#8, 2, []⟩
    ∧ seen [] (machine 0x8000#16 0x7F#8 0x00#8 0x00#8 0xFD#8 0x21#8 [0xE9#8, 0xFF#8] [])
      = some ⟨0x80#8, 0x00#8, 0x00#8, 0xFD#8, 0x8002#16, 0xE0#8, 2, []⟩
    ∧ seen [] (machine 0x8000#16 0xFF#8 0x00#8 0x00#8 0xFD#8 0x20#8 [0xE9#8, 0x7F#8] [])
      = some ⟨0x7F#8, 0x00#8, 0x00#8, 0xFD#8, 0x8002#16, 0x61#8, 2, []⟩
    ∧ seen [] (machine 0x8000#16 0x03#8 0x00#8 0x00#8 0xFD#8 0x21#8 [0xEB#8, 0x01#8] [])
      = some ⟨0x02#8, 0x00#8, 0x00#8, 0xFD#8, 0x8002#16, 0x21#8, 2, []⟩ := by
  decide +kernel

/-- LG1, LG2, LG4, X10, X11, X12. -/
theorem test_logic :
    seen [] (machine 0x8000#16 0xF0#8 0x00#8 0x00#8 0xFD#8 0x20#8 [0x29#8, 0x0F#8] [])
      = some ⟨0x00#8, 0x00#8, 0x00#8, 0xFD#8, 0x8002#16, 0x22#8, 2, []⟩
    ∧ seen [] (machine 0x8000#16 0x01#8 0x00#8 0x00#8 0xFD#8 0x20#8 [0x09#8, 0x80#8] [])
      = some ⟨0x81#8, 0x00#8, 0x00#8, 0xFD#8, 0x8002#16, 0xA0#8, 2, []⟩
    ∧ seen [] (machine 0x8000#16 0x0F#8 0x00#8 0x00#8 0xFD#8 0x22#8 [0x49#8, 0xFF#8] [])
      = some ⟨0xF0#8, 0x00#8, 0x00#8, 0xFD#8, 0x8002#16, 0xA0#8, 2, []⟩
    ∧ seen [] (machine 0x8000#16 0x03#8 0x00#8 0x00#8 0xFD#8 0x20#8 [0x4B#8, 0xFF#8] [])
      = some ⟨0x01#8, 0x00#8, 0x00#8, 0xFD#8, 0x8002#16, 0x21#8, 2, []⟩
    ∧ seen [] (machine 0x8000#16 0xFF#8 0x00#8 0x00#8 0xFD#8 0x20#8 [0x0B#8, 0x80#8] [])
      = some ⟨0x80#8, 0x00#8, 0x00#8, 0xFD#8, 0x8002#16, 0xA1#8, 2, []⟩
    ∧ seen [] (machine 0x8000#16 0xFF#8 0x00#8 0x00#8 0xFD#8 0x21#8 [0x2B#8, 0x7F#8] [])
      = some ⟨0x7F#8, 0x00#8, 0x00#8, 0xFD#8, 0x8002#16, 0x20#8, 2, []⟩ := by
  decide +kernel

/-- CP2, CP3, CP5, CP6, BT1, BT3. -/
theorem test_compares :
    seen [] (machine 0x8000#16 0x10#8 0x00#8 0x00#8 0xFD#8 0x21#8 [0xC9#8, 0x11#8] [])
      = some ⟨0x10#8, 0x00#8, 0x00#8, 0xFD#8, 0x8002#16, 0xA0#8, 2, []⟩
    ∧ seen [] (machine 0x8000#16 0x80#8 0x00#8 0x00#8 0xFD#8 0x20#8 [0xC9#8, 0x01#8] [])
      = some ⟨0x80#8, 0x00#8, 0x00#8, 0xFD#8, 0x8002#16, 0x21#8, 2, []⟩
    ∧ seen [] (machine 0x8000#16 0x00#8 0xFF#8 0x00#8 0xFD#8 0x20#8 [0xE0#8, 0x00#8] [])
      = some ⟨0x00#8, 0xFF#8, 0x00#8, 0xFD#8, 0x8002#16, 0xA1#8, 2, []⟩
    ∧ seen [] (machine 0x8000#16 0x00#8 0x00#8 0x7F#8 0xFD#8 0x60#8 [0xC0#8, 0x80#8] [])
      = some ⟨0x00#8, 0x00#8, 0x7F#8, 0xFD#8, 0x8002#16, 0xE0#8, 2, []⟩
    ∧ seen [] (machine 0x8000#16 0x01#8 0x00#8 0x00#8 0xFD#8 0x20#8
        [0x24#8, 0x10#8] [(0x0010, 0xC0#8)])
      = some ⟨0x01#8, 0x00#8, 0x00#8, 0xFD#8, 0x8002#16, 0xE2#8, 3, []⟩
    ∧ seen [] (machine 0x8000#16 0x00#8 0x00#8 0x00#8 0xFD#8 0x20#8
        [0x2C#8, 0x34#8, 0x12#8] [(0x1234, 0x40#8)])
      = some ⟨0x00#8, 0x00#8, 0x00#8, 0xFD#8, 0x8003#16, 0x62#8, 4, []⟩ := by
  decide +kernel

/-- A10, IN2, IN3, IN4, IN5, IN6. -/
theorem test_counts :
    seen [0x1300] (machine 0x8000#16 0x00#8 0x10#8 0x00#8 0xFD#8 0x20#8
        [0xFE#8, 0xF0#8, 0x12#8] [(0x1300, 0xFF#8)])
      = some ⟨0x00#8, 0x10#8, 0x00#8, 0xFD#8, 0x8003#16, 0x22#8, 7, [0x00#8]⟩
    ∧ seen [0x0010] (machine 0x8000#16 0x00#8 0x00#8 0x00#8 0xFD#8 0x20#8
        [0xC6#8, 0x10#8] [(0x0010, 0x00#8)])
      = some ⟨0x00#8, 0x00#8, 0x00#8, 0xFD#8, 0x8002#16, 0xA0#8, 5, [0xFF#8]⟩
    ∧ seen [] (machine 0x8000#16 0x00#8 0xFF#8 0x00#8 0xFD#8 0x21#8 [0xE8#8] [])
      = some ⟨0x00#8, 0x00#8, 0x00#8, 0xFD#8, 0x8001#16, 0x23#8, 2, []⟩
    ∧ seen [] (machine 0x8000#16 0x00#8 0x00#8 0x00#8 0xFD#8 0x20#8 [0x88#8] [])
      = some ⟨0x00#8, 0x00#8, 0xFF#8, 0xFD#8, 0x8001#16, 0xA0#8, 2, []⟩
    ∧ seen [] (machine 0x8000#16 0x00#8 0x01#8 0x00#8 0xFD#8 0x20#8 [0xCA#8] [])
      = some ⟨0x00#8, 0x00#8, 0x00#8, 0xFD#8, 0x8001#16, 0x22#8, 2, []⟩
    ∧ seen [] (machine 0x8000#16 0x00#8 0x00#8 0x7F#8 0xFD#8 0x20#8 [0xC8#8] [])
      = some ⟨0x00#8, 0x00#8, 0x80#8, 0xFD#8, 0x8001#16, 0xA0#8, 2, []⟩ := by
  decide +kernel

/-- S2, S4, S5, S10, S11. -/
theorem test_shifts :
    seen [] (machine 0x8000#16 0x40#8 0x00#8 0x00#8 0xFD#8 0x21#8 [0x0A#8] [])
      = some ⟨0x80#8, 0x00#8, 0x00#8, 0xFD#8, 0x8001#16, 0xA0#8, 2, []⟩
    ∧ seen [] (machine 0x8000#16 0x80#8 0x00#8 0x00#8 0xFD#8 0xA1#8 [0x4A#8] [])
      = some ⟨0x40#8, 0x00#8, 0x00#8, 0xFD#8, 0x8001#16, 0x20#8, 2, []⟩
    ∧ seen [] (machine 0x8000#16 0x80#8 0x00#8 0x00#8 0xFD#8 0x21#8 [0x2A#8] [])
      = some ⟨0x01#8, 0x00#8, 0x00#8, 0xFD#8, 0x8001#16, 0x21#8, 2, []⟩
    ∧ seen [0x0300] (machine 0x8000#16 0x00#8 0x01#8 0x00#8 0xFD#8 0x21#8
        [0x7E#8, 0xFF#8, 0x02#8] [(0x0300, 0x02#8)])
      = some ⟨0x00#8, 0x01#8, 0x00#8, 0xFD#8, 0x8003#16, 0xA0#8, 7, [0x81#8]⟩
    ∧ seen [0x0010] (machine 0x8000#16 0x77#8 0x00#8 0x00#8 0xFD#8 0x20#8
        [0x46#8, 0x10#8] [(0x0010, 0x01#8)])
      = some ⟨0x77#8, 0x00#8, 0x00#8, 0xFD#8, 0x8002#16, 0x23#8, 5, [0x00#8]⟩ := by
  decide +kernel

/-- B1, B3, B4, B5, B6, B7, B8, B9, B10. -/
theorem test_branches :
    seen [] (machine 0x8000#16 0x00#8 0x00#8 0x00#8 0xFD#8 0x22#8 [0xD0#8, 0x02#8] [])
      = some ⟨0x00#8, 0x00#8, 0x00#8, 0xFD#8, 0x8002#16, 0x22#8, 2, []⟩
    ∧ seen [] (machine 0x80F0#16 0x00#8 0x00#8 0x00#8 0xFD#8 0x22#8 [0xF0#8, 0x20#8] [])
      = some ⟨0x00#8, 0x00#8, 0x00#8, 0xFD#8, 0x8112#16, 0x22#8, 4, []⟩
    ∧ seen [] (machine 0x8003#16 0x00#8 0x00#8 0x00#8 0xFD#8 0x20#8 [0x10#8, 0xFB#8] [])
      = some ⟨0x00#8, 0x00#8, 0x00#8, 0xFD#8, 0x8000#16, 0x20#8, 3, []⟩
    ∧ seen [] (machine 0x8100#16 0x00#8 0x00#8 0x00#8 0xFD#8 0x20#8 [0x90#8, 0xFD#8] [])
      = some ⟨0x00#8, 0x00#8, 0x00#8, 0xFD#8, 0x80FF#16, 0x20#8, 4, []⟩
    ∧ seen [] (machine 0x80FE#16 0x00#8 0x00#8 0x00#8 0xFD#8 0x21#8 [0xB0#8, 0x00#8] [])
      = some ⟨0x00#8, 0x00#8, 0x00#8, 0xFD#8, 0x8100#16, 0x21#8, 3, []⟩
    ∧ seen [] (machine 0x8000#16 0x00#8 0x00#8 0x00#8 0xFD#8 0x20#8 [0x50#8, 0x80#8] [])
      = some ⟨0x00#8, 0x00#8, 0x00#8, 0xFD#8, 0x7F82#16, 0x20#8, 4, []⟩
    ∧ seen [] (machine 0x8000#16 0x00#8 0x00#8 0x00#8 0xFD#8 0x60#8 [0x70#8, 0x7F#8] [])
      = some ⟨0x00#8, 0x00#8, 0x00#8, 0xFD#8, 0x8081#16, 0x60#8, 3, []⟩
    ∧ seen [] (machine 0x8000#16 0x00#8 0x00#8 0x00#8 0xFD#8 0xA0#8 [0x30#8, 0xFE#8] [])
      = some ⟨0x00#8, 0x00#8, 0x00#8, 0xFD#8, 0x8000#16, 0xA0#8, 3, []⟩
    ∧ seen [] (machine 0x807F#16 0x00#8 0x00#8 0x00#8 0xFD#8 0x20#8 [0xD0#8, 0x7F#8] [])
      = some ⟨0x00#8, 0x00#8, 0x00#8, 0xFD#8, 0x8100#16, 0x20#8, 4, []⟩ := by
  decide +kernel

/-- A16, J1, J4, J5. -/
theorem test_jumps :
    seen [] (machine 0x8000#16 0x00#8 0x00#8 0x00#8 0xFD#8 0x20#8
        [0x6C#8, 0xFF#8, 0x02#8] [(0x0200, 0x90#8), (0x02FF, 0x00#8), (0x0300, 0xA0#8)])
      = some ⟨0x00#8, 0x00#8, 0x00#8, 0xFD#8, 0x9000#16, 0x20#8, 5, []⟩
    ∧ seen [] (machine 0x8000#16 0x00#8 0x00#8 0x00#8 0xFD#8 0x20#8 [0x4C#8, 0x34#8, 0x12#8] [])
      = some ⟨0x00#8, 0x00#8, 0x00#8, 0xFD#8, 0x1234#16, 0x20#8, 3, []⟩
    ∧ seen [] (machine 0x9000#16 0x00#8 0x00#8 0x00#8 0xFF#8 0x20#8
        [0x60#8] [(0x0100, 0xFF#8), (0x0101, 0xFF#8)])
      = some ⟨0x00#8, 0x00#8, 0x00#8, 0x01#8, 0x0000#16, 0x20#8, 6, []⟩
    ∧ seen [0x0100, 0x01FF] (machine 0x8000#16 0x00#8 0x00#8 0x00#8 0x00#8 0x20#8
        [0x20#8, 0x00#8, 0x90#8] [])
      = some ⟨0x00#8, 0x00#8, 0x00#8, 0xFE#8, 0x9000#16, 0x20#8, 6, [0x80#8, 0x02#8]⟩ := by
  decide +kernel

/-- K1, K3, K4, K6. -/
theorem test_stack :
    seen [0x01FD] (machine 0x8000#16 0x42#8 0x00#8 0x00#8 0xFD#8 0x20#8 [0x48#8] [])
      = some ⟨0x42#8, 0x00#8, 0x00#8, 0xFC#8, 0x8001#16, 0x20#8, 3, [0x42#8]⟩
    ∧ seen [0x01FD] (machine 0x8000#16 0x00#8 0x00#8 0x00#8 0xFD#8 0xE3#8 [0x08#8] [])
      = some ⟨0x00#8, 0x00#8, 0x00#8, 0xFC#8, 0x8001#16, 0xE3#8, 3, [0xF3#8]⟩
    ∧ seen [] (machine 0x8000#16 0x00#8 0x00#8 0x00#8 0xFC#8 0x20#8 [0x28#8] [(0x01FD, 0xFF#8)])
      = some ⟨0x00#8, 0x00#8, 0x00#8, 0xFD#8, 0x8001#16, 0xEF#8, 4, []⟩
    ∧ seen [] (machine 0x8000#16 0x00#8 0x00#8 0x00#8 0xFF#8 0x20#8 [0x68#8] [(0x0100, 0x80#8)])
      = some ⟨0x80#8, 0x00#8, 0x00#8, 0x00#8, 0x8001#16, 0xA0#8, 4, []⟩ := by
  decide +kernel

/-- K8, K9, K10, K11, K12, K13, K14, K15. -/
theorem test_flags :
    seen [] (machine 0x8000#16 0x00#8 0x00#8 0x00#8 0xFD#8 0x21#8 [0x18#8] [])
      = some ⟨0x00#8, 0x00#8, 0x00#8, 0xFD#8, 0x8001#16, 0x20#8, 2, []⟩
    ∧ seen [] (machine 0x8000#16 0x00#8 0x00#8 0x00#8 0xFD#8 0x20#8 [0x38#8] [])
      = some ⟨0x00#8, 0x00#8, 0x00#8, 0xFD#8, 0x8001#16, 0x21#8, 2, []⟩
    ∧ seen [] (machine 0x8000#16 0x00#8 0x00#8 0x00#8 0xFD#8 0x24#8 [0x58#8] [])
      = some ⟨0x00#8, 0x00#8, 0x00#8, 0xFD#8, 0x8001#16, 0x20#8, 2, []⟩
    ∧ seen [] (machine 0x8000#16 0x00#8 0x00#8 0x00#8 0xFD#8 0x20#8 [0x78#8] [])
      = some ⟨0x00#8, 0x00#8, 0x00#8, 0xFD#8, 0x8001#16, 0x24#8, 2, []⟩
    ∧ seen [] (machine 0x8000#16 0x00#8 0x00#8 0x00#8 0xFD#8 0x28#8 [0xD8#8] [])
      = some ⟨0x00#8, 0x00#8, 0x00#8, 0xFD#8, 0x8001#16, 0x20#8, 2, []⟩
    ∧ seen [] (machine 0x8000#16 0x00#8 0x00#8 0x00#8 0xFD#8 0x20#8 [0xF8#8] [])
      = some ⟨0x00#8, 0x00#8, 0x00#8, 0xFD#8, 0x8001#16, 0x28#8, 2, []⟩
    ∧ seen [] (machine 0x8000#16 0x00#8 0x00#8 0x00#8 0xFD#8 0x60#8 [0xB8#8] [])
      = some ⟨0x00#8, 0x00#8, 0x00#8, 0xFD#8, 0x8001#16, 0x20#8, 2, []⟩
    ∧ seen [] (machine 0x8000#16 0x00#8 0x00#8 0x00#8 0xFD#8 0xE3#8 [0xEA#8] [])
      = some ⟨0x00#8, 0x00#8, 0x00#8, 0xFD#8, 0x8001#16, 0xE3#8, 2, []⟩ := by
  decide +kernel

/-- K16, K17. -/
theorem test_brk_rti :
    seen [0x01FD, 0x01FC, 0x01FB] (machine 0x8000#16 0x00#8 0x00#8 0x00#8 0xFD#8 0x23#8
        [0x00#8, 0xFF#8] [(0xFFFE, 0x00#8), (0xFFFF, 0x90#8)])
      = some ⟨0x00#8, 0x00#8, 0x00#8, 0xFA#8, 0x9000#16, 0x27#8, 7, [0x80#8, 0x02#8, 0x33#8]⟩
    ∧ seen [] (machine 0x8000#16 0x00#8 0x00#8 0x00#8 0xFA#8 0x24#8
        [0x40#8] [(0x01FB, 0xF3#8), (0x01FC, 0x02#8), (0x01FD, 0x80#8)])
      = some ⟨0x00#8, 0x00#8, 0x00#8, 0xFD#8, 0x8002#16, 0xE3#8, 6, []⟩ := by
  decide +kernel

/-- X2, X3. -/
theorem test_lax_sax :
    seen [] (machine 0x8000#16 0x00#8 0x00#8 0x01#8 0xFD#8 0x20#8
        [0xBF#8, 0xFF#8, 0x02#8] [(0x0300, 0x00#8)])
      = some ⟨0x00#8, 0x00#8, 0x01#8, 0xFD#8, 0x8003#16, 0x22#8, 5, []⟩
    ∧ seen [0x0010] (machine 0x8000#16 0xF0#8 0x3C#8 0x00#8 0xFD#8 0x20#8 [0x87#8, 0x10#8] [])
      = some ⟨0xF0#8, 0x3C#8, 0x00#8, 0xFD#8, 0x8002#16, 0x20#8, 3, [0x30#8]⟩ := by
  decide +kernel

/-- X5, X7, X8, X9, X20, X21. -/
theorem test_fused :
    seen [0x0010] (machine 0x8000#16 0x10#8 0x00#8 0x00#8 0xFD#8 0x21#8
        [0xE7#8, 0x10#8] [(0x0010, 0x0F#8)])
      = some ⟨0x00#8, 0x00#8, 0x00#8, 0xFD#8, 0x8002#16, 0x23#8, 5, [0x10#8]⟩
    ∧ seen [0x0010] (machine 0x8000#16 0xFF#8 0x00#8 0x00#8 0xFD#8 0x21#8
        [0x27#8, 0x10#8] [(0x0010, 0x40#8)])
      = some ⟨0x81#8, 0x00#8, 0x00#8, 0xFD#8, 0x8002#16, 0xA0#8, 5, [0x81#8]⟩
    ∧ seen [0x0010] (machine 0x8000#16 0xFF#8 0x00#8 0x00#8 0xFD#8 0x20#8
        [0x47#8, 0x10#8] [(0x0010, 0x03#8)])
      = some ⟨0xFE#8, 0x00#8, 0x00#8, 0xFD#8, 0x8002#16, 0xA1#8, 5, [0x01#8]⟩
    ∧ seen [0x0010] (machine 0x8000#16 0x01#8 0x00#8 0x00#8 0xFD#8 0x21#8
        [0x67#8, 0x10#8] [(0x0010, 0x02#8)])
      = some ⟨0x82#8, 0x00#8, 0x00#8, 0xFD#8, 0x8002#16, 0xA0#8, 5, [0x81#8]⟩
    ∧ seen [0x0300] (machine 0x8000#16 0x00#8 0x01#8 0x00#8 0xFD#8 0x20#8
        [0xDF#8, 0xFF#8, 0x02#8] [(0x0300, 0x01#8)])
      = some ⟨0x00#8, 0x01#8, 0x00#8, 0xFD#8, 0x8003#16, 0x23#8, 7, [0x00#8]⟩
    ∧ seen [0x0300] (machine 0x8000#16 0x00#8 0x00#8 0x01#8 0xFD#8 0x20#8
        [0x13#8, 0x10#8] [(0x0010, 0xFF#8), (0x0011, 0x02#8), (0x0300, 0x80#8)])
      = some ⟨0x00#8, 0x00#8, 0x01#8, 0xFD#8, 0x8002#16, 0x23#8, 8, [0x00#8]⟩ := by
  decide +kernel

/-- X14, X15, X18. -/
theorem test_nops :
    seen [] (machine 0x8000#16 0x00#8 0x00#8 0x00#8 0xFD#8 0xE3#8 [0x1A#8] [])
      = some ⟨0x00#8, 0x00#8, 0x00#8, 0xFD#8, 0x8001#16, 0xE3#8, 2, []⟩
    ∧ seen [] (machine 0x8000#16 0x00#8 0x00#8 0x00#8 0xFD#8 0x20#8 [0x80#8, 0x55#8] [])
      = some ⟨0x00#8, 0x00#8, 0x00#8, 0xFD#8, 0x8002#16, 0x20#8, 2, []⟩
    ∧ seen [] (machine 0x8000#16 0x00#8 0x01#8 0x00#8 0xFD#8 0x20#8 [0x1C#8, 0xFF#8, 0x20#8] [])
      = some ⟨0x00#8, 0x01#8, 0x00#8, 0xFD#8, 0x8003#16, 0x20#8, 5, []⟩ := by
  decide +kernel

/-- STP and a RESERVED opcode: the CPU is stuck, `PC` behind the opcode (`46` R332, R333). -/
theorem test_jam :
    (∃ t, step (machine 0x8000#16 0#8 0#8 0#8 0xFD#8 0x20#8 [0x02#8] []) = .next t
      ∧ t.jammed = true ∧ t.pc = 0x8001#16)
    ∧ ∃ t, step (machine 0x8000#16 0#8 0#8 0#8 0xFD#8 0x20#8 [0x9E#8, 0x00#8, 0x02#8] []) = .next t
      ∧ t.jammed = true ∧ t.pc = 0x8003#16 :=
  ⟨⟨_, rfl, rfl, rfl⟩, ⟨_, rfl, rfl, rfl⟩⟩

/-- `StepInstruction` right after reset drains the 8 reset cycles, on ticks 0 to 21, and executes nothing;
from the last cycle of a slot it stops after that slot; a 2-cycle instruction takes 6 ticks (`64` R642). -/
theorem test_stepInstruction :
    stepInstruction 21 State.reset = none
    ∧ (∃ t, stepInstruction 22 State.reset = some (.next t) ∧ t.cycles = 0 ∧ t.pc = State.reset.pc
      ∧ t.master = 22)
    ∧ (∃ t, stepInstruction 9 { State.reset with cycles := 1 } = some (.next t) ∧ t.master = 1)
    ∧ stepInstruction 3 (State.reset.withFetchWord 8 0xEA) = none
    ∧ ∃ t, stepInstruction 9 (State.reset.withFetchWord 8 0xEA) = some (.next t) ∧ t.cycles = 0
      ∧ t.pc = 1#16 ∧ t.master = 4 :=
  ⟨rfl, ⟨_, rfl, rfl, rfl, rfl⟩, ⟨_, rfl, rfl⟩, rfl, _, rfl, rfl, rfl, rfl⟩

/-! ## Interrupts and reset: section 2.8 -/

/-- The machine of section 2.8: three vectors. -/
def vectored (a x y sp p : Byte) (pc : Addr) (cycles : Nat) : State :=
  { machine 0x8000#16 a x y sp p []
      [(0xFFFA, 0x00#8), (0xFFFB, 0x90#8), (0xFFFC, 0x00#8), (0xFFFD, 0x80#8), (0xFFFE, 0x00#8),
       (0xFFFF, 0xA0#8)] with pc := pc, cycles := cycles }

/-- What is seen of a state, with the three bytes of the stack page from the old pointer down. -/
def stackSeen (s : State) (k : Nat) : Seen :=
  ⟨s.a, s.x, s.y, s.sp, s.pc, s.p, s.cycles,
   [Memory.read s.ram (256 + k % 256), Memory.read s.ram (256 + (k + 255) % 256),
    Memory.read s.ram (256 + (k + 254) % 256)]⟩

/-- I1 to I5, I7. -/
theorem test_interrupts :
    stackSeen (irq (vectored 0#8 0#8 0#8 0xFD#8 0x63#8 0x8123#16 0)) 0xFD
      = ⟨0#8, 0#8, 0#8, 0xFA#8, 0xA000#16, 0x67#8, 7, [0x81#8, 0x23#8, 0x63#8]⟩
    ∧ irq (vectored 0#8 0#8 0#8 0xFD#8 0x24#8 0x8123#16 0)
      = vectored 0#8 0#8 0#8 0xFD#8 0x24#8 0x8123#16 0
    ∧ stackSeen (nmi (vectored 0#8 0#8 0#8 0xFD#8 0x24#8 0x8123#16 3)) 0xFD
      = ⟨0#8, 0#8, 0#8, 0xFA#8, 0x9000#16, 0x24#8, 8, [0x81#8, 0x23#8, 0x24#8]⟩
    ∧ stackSeen (nmi (vectored 0#8 0#8 0#8 0x01#8 0xE3#8 0x8123#16 0)) 0x01
      = ⟨0#8, 0#8, 0#8, 0xFE#8, 0x9000#16, 0xE7#8, 8, [0x81#8, 0x23#8, 0xE3#8]⟩
    ∧ stackSeen (nmi (irq (vectored 0#8 0#8 0#8 0xFD#8 0x20#8 0x8123#16 0))) 0xFA
      = ⟨0#8, 0#8, 0#8, 0xF7#8, 0x9000#16, 0x24#8, 8, [0xA0#8, 0x00#8, 0x24#8]⟩
    ∧ stackSeen (irq (vectored 0#8 0#8 0#8 0xFD#8 0x20#8 0xFFFF#16 0)) 0xFD
      = ⟨0#8, 0#8, 0#8, 0xFA#8, 0xA000#16, 0x24#8, 7, [0xFF#8, 0xFF#8, 0x20#8]⟩ := by
  decide +kernel

/-- An interrupt delivered to a Jammed CPU has the effect of its entry, and the CPU runs again (`93` U2,
log 6); a masked IRQ leaves it Jammed. -/
theorem test_interrupt_while_jammed :
    (∃ t, tickEnd { vectored 0#8 0#8 0#8 0xFD#8 0x20#8 0x8123#16 0 with
        jammed := true, requests := [{ reset := false, irq := true }] } = .next t
      ∧ t.jammed = false ∧ t.pc = 0xA000#16 ∧ t.cycles = 7)
    ∧ ∃ t, tickEnd { vectored 0#8 0#8 0#8 0xFD#8 0x24#8 0x8123#16 0 with
        jammed := true, requests := [{ reset := false, irq := true }] } = .next t ∧ t.jammed = true :=
  ⟨⟨_, rfl, rfl, rfl, rfl⟩, _, rfl, rfl⟩

/-- I6, and L1-1: a reset from any state, twice. -/
theorem test_reset :
    cpuReset (vectored 0x5A#8 0x11#8 0x22#8 0x00#8 0xEF#8 0x1234#16 3)
      = vectored 0#8 0#8 0#8 0xFD#8 0x20#8 0x8000#16 8
    ∧ cpuReset (cpuReset (vectored 0x5A#8 0x11#8 0x22#8 0x00#8 0xEF#8 0x1234#16 3))
      = vectored 0#8 0#8 0#8 0xFD#8 0x20#8 0x8000#16 8 := by
  decide +kernel

/-! ## Bus, mapper, picture processor: sections 2.9, 2.11, 2.12 -/

/-- A switchable cartridge whose byte 0x100 of every bank names the bank. -/
def banked (mapper : Mapper) (banks : Nat) : State :=
  { State.reset with
    cart := { Cartridge.blank with
      prgBanks := banks, mapper := mapper,
      prg := (List.range banks).map (fun b => (b * 0x4000 + 0x100, BitVec.ofNat 8 (0xB0 + b))) } }

/-- BM1 to BM5, BM6, BM7, BM9 to BM13. -/
theorem test_bus_and_mappers :
    Memory.read (memWrite State.reset 0x0801#16 0x77#8).ram 1 = 0x77#8
    ∧ busValue (memWrite State.reset 0x0801#16 0x77#8) 0x1801#16 = 0x77#8
    ∧ (memWrite State.reset 0x3FF9#16 0x1E#8).ppu.mask = 0x1E#8
    ∧ (memWrite State.reset 0x2008#16 0x90#8).ppu.ctrl = 0x90#8
    ∧ [0x4014#16, 0x4018#16, 0x5000#16, 0x7FFF#16].map (busValue State.reset) = [0#8, 0#8, 0#8, 0#8]
    ∧ busValue (memWrite State.reset 0x6000#16 0x55#8) 0x6000#16 = 0#8
    ∧ [0x8100#16, 0xC100#16].map (busValue (banked .fixed 1)) = [0xB0#8, 0xB0#8]
    ∧ [0x8100#16, 0xC100#16].map (busValue (banked .fixed 2)) = [0xB0#8, 0xB1#8]
    ∧ [0x8100#16, 0xC100#16].map (busValue (banked (.switchable 0) 4)) = [0xB0#8, 0xB3#8]
    ∧ [0x8100#16, 0xC100#16].map (busValue (memWrite (banked (.switchable 0) 4) 0x8000#16 0x12#8))
      = [0xB2#8, 0xB3#8]
    ∧ busValue (memWrite (banked (.switchable 2) 4) 0xFFFF#16 0x0F#8) 0x8100#16 = 0xB3#8
    ∧ [0x8100#16, 0xC100#16].map (busValue (memWrite (banked (.switchable 0) 3) 0x8000#16 0x05#8))
      = [0xB2#8, 0xB2#8]
    ∧ busValue (memWrite (banked (.switchable 5) 3) 0x9000#16 0x04#8) 0x8100#16 = 0xB1#8 := by
  decide +kernel

/-- Bus writes applied in order. -/
def writes (s : State) (l : List (Addr × Byte)) : State := l.foldl (fun t c => memWrite t c.1 c.2) s

/-- `t`, `v`, fine-X and the write toggle. -/
def scrolls (s : State) : Nat × Nat × Nat × Bool := (s.ppu.t.toNat, s.ppu.v.toNat, s.ppu.fineX.toNat, s.ppu.w)

/-- PR1 to PR6, PR8 to PR12. -/
theorem test_picture_registers :
    scrolls (writes State.reset [(0x2005#16, 0x7D#8)]) = (0x000F, 0, 5, true)
    ∧ scrolls (writes State.reset [(0x2005#16, 0x7D#8), (0x2005#16, 0x5E#8), (0x2000#16, 0x03#8)])
      = (0x6D6F, 0, 5, false)
    ∧ scrolls (writes State.reset [(0x2005#16, 0x7D#8), (0x2005#16, 0x5E#8), (0x2000#16, 0x03#8),
        (0x2006#16, 0x3F#8)]) = (0x3F6F, 0, 5, true)
    ∧ scrolls (writes State.reset [(0x2005#16, 0x7D#8), (0x2005#16, 0x5E#8), (0x2000#16, 0x03#8),
        (0x2006#16, 0x3F#8), (0x2006#16, 0x10#8)]) = (0x3F10, 0x3F10, 5, false)
    ∧ (let s := writes State.reset [(0x2006#16, 0x20#8), (0x2006#16, 0x00#8), (0x2007#16, 0xAA#8),
        (0x2007#16, 0xBB#8), (0x2006#16, 0x20#8), (0x2006#16, 0x00#8)]
       busValue s 0x2007#16 = 0#8 ∧ busValue (busEffect s 0x2007#16) 0x2007#16 = 0xAA#8) := by
  decide +kernel

/-- PR13 to PR15, PR16, PR17, PR20. -/
theorem test_picture_memories :
    (let s := writes State.reset [(0x2006#16, 0x3F#8), (0x2006#16, 0x10#8), (0x2007#16, 0x2A#8)]
     Memory.read s.ppu.pal 0 = 0x2A#8 ∧ Memory.read s.ppu.pal 16 = 0#8 ∧ s.ppu.v = 0x3F11#15)
    ∧ (let s := writes State.reset [(0x2000#16, 0x04#8), (0x2006#16, 0x23#8), (0x2006#16, 0xE0#8),
        (0x2007#16, 0x11#8), (0x2007#16, 0x22#8)]
       Memory.read s.ppu.nt0 0x3E0 = 0x11#8 ∧ Memory.read s.ppu.nt0 0 = 0x22#8 ∧ s.ppu.v = 0x2420#15)
    ∧ (let s := writes State.reset [(0x2003#16, 0xFE#8), (0x2004#16, 0x11#8), (0x2004#16, 0x22#8),
        (0x2004#16, 0x33#8)]
       [0xFE, 0xFF, 0].map (Memory.read s.ppu.oam) = [0x11#8, 0x22#8, 0x33#8] ∧ s.ppu.oamAddr = 1#8) := by
  decide +kernel

/-- The IncY row of section 2.12, and L1-6. -/
theorem test_scroll_increments :
    [0x0000#15, 0x6000#15, 0x7000#15, 0x73A0#15, 0x7BA0#15, 0x73E0#15, 0x7BE0#15, 0x73C0#15].map stepY
      = [0x1000#15, 0x7000#15, 0x0020#15, 0x0800#15, 0x0000#15, 0x0000#15, 0x0800#15, 0x03E0#15]
    ∧ [0x001E#15, 0x001F#15, 0x041F#15].map stepX = [0x001F#15, 0x0400#15, 0x0000#15] := by
  decide +kernel

/-- The sprite row addresses of section 2.12. -/
theorem test_sprite_rows :
    (let p8 := { Ppu.reset with ctrl := 0x08#8 }
     let p16 := { Ppu.reset with ctrl := 0x20#8 }
     [spritePatternAddr p8 0x12#8 0x00#8 3, spritePatternAddr p8 0x12#8 0x80#8 3,
      spritePatternAddr p16 0x13#8 0x00#8 3, spritePatternAddr p16 0x13#8 0x00#8 11,
      spritePatternAddr p16 0x13#8 0x80#8 3, spritePatternAddr p16 0x13#8 0x80#8 11,
      spritePatternAddr p16 0x12#8 0x00#8 15])
      = [0x1123#14, 0x1124#14, 0x1123#14, 0x1133#14, 0x1134#14, 0x1124#14, 0x0137#14] := by
  decide +kernel

/-! ## The first step after reset runs a placed instruction -/

theorem test_withFetchWord :
    (∃ t, step (State.reset.withFetchWord 16 0x80A9) = .next t ∧ t.a = 0x80#8 ∧ t.pc = 2#16)
    ∧ ∃ t, step (({ State.reset with pc := 0x2002#16 } : State).withFetchWord 24 0x12344C) = .next t
      ∧ t.pc = 0x1234#16 :=
  ⟨⟨_, rfl, rfl, rfl⟩, ⟨_, rfl, rfl⟩⟩

/-! ## Witnesses: the hypotheses of every statement can be met -/

/-- The reset machine with its eight cycles served. -/
def ready : State := { State.reset with cycles := 0 }

/-- `DecodeOfEncode`: the checked opcodes at both ends of their lists. -/
theorem witness_DecodeOfEncode :
    (Instr.stp 0x02#8).wellFormed = true ∧ (Instr.stp 0xF2#8).wellFormed = true
    ∧ (Instr.rsvImm 0x6B#8 0xFF#8).wellFormed = true ∧ (Instr.rsvImm 0xCB#8 0x00#8).wellFormed = true
    ∧ (Instr.rsvAby 0x9B#8 0xFFFF#16).wellFormed = true
    ∧ (Instr.rsvAby 0xBB#8 0x0000#16).wellFormed = true ∧ Instr.nop.wellFormed = true := by
  decide

theorem witness_EveryBytesDecode : 3 ≤ [0x00#8, 0x00#8, 0x00#8].length := by decide

/-- `StepRunsTheDecodedInstruction`: in RAM; in program memory at its last byte, the operand wrapping to
address 0. -/
theorem witness_StepRunsTheDecodedInstruction :
    (∃ s i rest, s.master % 3 = 0 ∧ s.dma.active = false ∧ s.jammed = false ∧ s.cycles = 0
      ∧ s.quiet ∧ decode [busValue s s.pc, busValue s (s.pc + 1), busValue s (s.pc + 2)] = .ok (i, rest)
      ∧ ∀ k, k < (encode i).length → plain (s.pc + word k))
    ∧ ∃ s i rest, s.pc = 0xFFFF#16 ∧ s.master % 3 = 0 ∧ s.dma.active = false ∧ s.jammed = false
      ∧ s.cycles = 0 ∧ s.quiet
      ∧ decode [busValue s s.pc, busValue s (s.pc + 1), busValue s (s.pc + 2)] = .ok (i, rest)
      ∧ ∀ k, k < (encode i).length → plain (s.pc + word k) := by
  refine ⟨⟨ready.withFetchWord 16 0x80A9, .ldaImm 0x80#8, [0#8], rfl, rfl, rfl, rfl, ⟨rfl, rfl⟩, rfl,
    ?_⟩, ⟨put (machine 0xFFFF#16 0#8 0#8 0#8 0xFD#8 0x20#8 [0x4C#8] []) (0, 0x34#8), .jmpAbs 0x0034#16,
    [], rfl, rfl, rfl, rfl, rfl, ⟨rfl, rfl⟩, rfl, ?_⟩⟩ <;> (unfold plain; decide +kernel)

/-- `EveryInstructionCompletes`: an instruction that does not Jam, from a state with break 1, with and
without a pulled status. -/
theorem witness_EveryInstructionCompletes :
    jams .nop = false ∧ (∃ t, exec .nop { ready with p := 0x10#8 } = .next t ∧ t.flag .b = true)
    ∧ ∃ t, exec .plp { ready with p := 0x10#8 } = .next t ∧ t.flag .b = false :=
  ⟨rfl, ⟨_, rfl, rfl⟩, _, rfl, rfl⟩

theorem witness_JamIsAStuckState :
    jams (.stp 0x02#8) = true ∧ jams (.rsvImm 0x6B#8 0#8) = true ∧ jams (.rsvIzy 0#8) = true
    ∧ jams (.rsvAby 0x9B#8 0#16) = true ∧ jams (.rsvAbx 0#16) = true := by
  decide

/-- `DecimalFlagHasNoEffect`: a byte of RAM beside the pushed one, for PHP and for BRK. -/
theorem witness_DecimalFlagHasNoEffect :
    Instr.adcImm 1#8 ≠ .php ∧ Instr.adcImm 1#8 ≠ .brk ∧ StatusFlag.c ≠ .d
    ∧ ¬ (Instr.php = .php ∧ 0x1FC = stackKey ready 0) ∧ ¬ (Instr.php = .brk ∧ 0x1FC = stackKey ready 254)
    ∧ ¬ (Instr.brk = .brk ∧ 0x1FD = stackKey ready 254) := by
  decide

/-- Every list of forms that a statement ranges over, by its length (the rows of the opcode table). -/
theorem witness_forms (m zp : Byte) (w : Addr) (s : State) :
    (ldaForms m zp w s).length = 8 ∧ (ldxForms m zp w s).length = 5 ∧ (ldyForms m zp w s).length = 5
    ∧ (laxForms zp w s).length = 6 ∧ (adcForms m zp w s).length = 8 ∧ (sbcForms m zp w s).length = 9
    ∧ (andForms m zp w s).length = 8 ∧ (oraForms m zp w s).length = 8
    ∧ (eorForms m zp w s).length = 8 ∧ (cmpForms m zp w s).length = 8 ∧ (cpxForms m zp w s).length = 3
    ∧ (cpyForms m zp w s).length = 3 ∧ (bitForms zp w s).length = 2 ∧ (staForms zp w s).length = 7
    ∧ (stxForms zp w s).length = 3 ∧ (styForms zp w s).length = 3 ∧ (saxForms zp w s).length = 4
    ∧ (incForms zp w s).length = 4 ∧ (decForms zp w s).length = 4 ∧ (aslForms zp w s).length = 4
    ∧ (lsrForms zp w s).length = 4 ∧ (rolForms zp w s).length = 4 ∧ (rorForms zp w s).length = 4
    ∧ (dcpForms zp w s).length = 7 ∧ (iscForms zp w s).length = 7 ∧ (sloForms zp w s).length = 7
    ∧ (rlaForms zp w s).length = 7 ∧ (sreForms zp w s).length = 7 ∧ (rraForms zp w s).length = 7
    ∧ (noOps m zp w s).length = 28 ∧ (branches m s).length = 8 ∧ (fusions zp w s).length = 24 :=
  ⟨rfl, rfl, rfl, rfl, rfl, rfl, rfl, rfl, rfl, rfl, rfl, rfl, rfl, rfl, rfl, rfl, rfl, rfl, rfl, rfl, rfl,
   rfl, rfl, rfl, rfl, rfl, rfl, rfl, rfl, rfl, rfl, rfl⟩

/-- `StoresLeaveOtherBytes`: a store completes at both ends of every range its clauses name, and there is
an address below 0x2000 that is no mirror of the one stored to. -/
theorem witness_StoresLeaveOtherBytes :
    (∀ w ∈ [0x0000#16, 0x1FFF#16, 0x2000#16, 0x3FFF#16, 0x4000#16, 0x7FFF#16, 0x8000#16, 0xFFFF#16],
      ∃ t f, f ∈ storingForms 0#8 w ready ∧ f.ea = w.toNat ∧ exec f.instr ready = .next t)
    ∧ ¬ ((0x1FFF : Nat) < 0x2000 ∧ 0x1FFF % 2048 = (0x0000#16).toNat % 2048) := by
  refine ⟨fun w _ => ⟨_, ⟨.staAbs w, 0x8D#8, w.toNat, 4⟩, ?_, rfl, rfl⟩, by decide⟩
  simp [storingForms, staForms]

/-- `ReadsStoreNothing`: a read completes, and memory lies on both sides of the devices. -/
theorem witness_ReadsStoreNothing :
    (∃ t f, f ∈ readingForms 0#8 0#8 0x0010#16 ready ∧ exec f.instr ready = .next t)
    ∧ plain 0x0000#16 ∧ plain 0x1FFF#16 ∧ plain 0x8000#16 ∧ plain 0xFFFF#16 := by
  refine ⟨⟨_, reading (.ldaAbs 0x0010#16) 0xAD#8 ready 0x0010 4, ?_, rfl⟩, ?_⟩
  · simp [readingForms, ldaForms]
  · unfold plain; decide

/-- `FusedIsTwoInstructions`: a fused form on the last byte of the RAM window. -/
theorem witness_FusedIsTwoInstructions :
    ∃ f ∈ fusions 0#8 0x1FFF#16 ready, f.ea < 0x2000 :=
  ⟨⟨.sloAbs 0x1FFF#16, .aslAbs 0x1FFF#16, .oraImm, (0x1FFF#16).toNat, 6⟩, by simp [fusions], by decide⟩

/-- `BranchesTestOneFlag`: both outcomes. -/
theorem witness_BranchesTestOneFlag :
    (∃ b ∈ branches 0#8 ready, b.2.2 = true) ∧ ∃ b ∈ branches 0#8 ready, b.2.2 = false :=
  ⟨⟨(.bcc 0#8, 0x90#8, true), by decide, rfl⟩, ⟨(.bcs 0#8, 0xB0#8, false), by decide, rfl⟩⟩

/-- `StackRoundTrips` and `RtiResumes`: an observable status, states that agree on the stack. -/
theorem witness_StackRoundTrips :
    ready.flag .b = false ∧ ready.flag .u = true
    ∧ ∃ t, exec .php ready = .next t ∧ ∃ u : State, u.sp = t.sp ∧ u.ram = t.ram :=
  ⟨rfl, rfl, _, rfl, _, rfl, rfl⟩

theorem witness_RtiResumes :
    ready.flag .b = false ∧ ready.flag .u = true ∧ ready.flag .i = false
    ∧ (∃ u : State, u.sp = (nmi ready).sp ∧ u.ram = (nmi ready).ram)
    ∧ (∃ u : State, u.sp = (irq ready).sp ∧ u.ram = (irq ready).ram)
    ∧ ∃ t, exec .brk ready = .next t ∧ ∃ u : State, u.sp = t.sp ∧ u.ram = t.ram :=
  ⟨rfl, rfl, rfl, ⟨_, rfl, rfl⟩, ⟨_, rfl, rfl⟩, _, rfl, _, rfl, rfl⟩

theorem witness_InterruptEntry :
    ready.flag .i = false ∧ ({ ready with p := 0x24#8 } : State).flag .i = true := by
  decide

/-- `InterruptPriority`: each request and none, with and without an NMI, of a running and a Jammed CPU. -/
theorem witness_InterruptPriority :
    ∀ l ∈ [[], [Request.mk false false], [.mk false true], [.mk true false], [.mk true true]],
      ∀ n ∈ [false, true], ∀ j ∈ [false, true],
        ∃ s : State, s.requests = l ∧ s.ppu.nmiRequest = n ∧ s.jammed = j :=
  fun l _ n _ j _ =>
    ⟨{ ready with requests := l, jammed := j, ppu := { Ppu.reset with nmiRequest := n } }, rfl, rfl, rfl⟩

/-- `RamMirrorsAndTestRegion`, `MapperSelectsTheProgramByte`, `BankSelectTakesTheLowNibble`: both ends of
every range. -/
theorem witness_address_ranges :
    (0x1FFF#16).toNat < 0x2000 ∧ (0x1FFF#16).toNat % 2048 = (0x07FF#16).toNat % 2048
    ∧ (0x1FFF#16).toNat % 2048 ≠ (0x0000#16).toNat % 2048
    ∧ 0x4018 ≤ (0x4018#16).toNat ∧ (0x401F#16).toNat ≤ 0x401F
    ∧ 0x4020 ≤ (0x4020#16).toNat ∧ (0x7FFF#16).toNat < 0x8000 ∧ 0x8000 ≤ (0x8000#16).toNat := by
  decide

/-- `RegisterWindow`, `TwoWriteRegisters`, `DataRegisterIsBuffered`: every register, at the first and the last of its addresses. -/
theorem witness_RegisterWindow :
    ∀ n : Fin 8, ∃ a b : Addr, 0x2000 ≤ a.toNat ∧ b.toNat < 0x4000 ∧ a.toNat % 8 = n.val
      ∧ b.toNat % 8 = n.val ∧ a.toNat < 0x4000 ∧ 0x2000 ≤ b.toNat :=
  fun n => ⟨word (0x2000 + n.val), word (0x3FF8 + n.val), by revert n; decide⟩

/-- `CartridgeIsImmutable`: a step of a machine whose pattern memory is ROM. -/
theorem witness_CartridgeIsImmutable :
    ∃ s t : State, step s = .next t ∧ s.cart.chrBanks ≠ 0 :=
  ⟨{ ready with cart := { Cartridge.blank with chrBanks := 1 } }, _, rfl, by decide⟩

/-- `LoadReadsTheHeader`: a file that loads, with pattern RAM; the other clauses are the files of
`test_load_turns_away`. -/
theorem witness_LoadReadsTheHeader :
    ∃ c, loadCartridge [] (header 1#8 0#8 0x00#8 0x00#8 ++ List.replicate 16384 0#8) = .next c
      ∧ c.chrBanks = 0 := by
  refine Exists.intro (w := ?c) ⟨?h, ?k⟩
  case h =>
    unfold loadCartridge
    rw [if_neg (by decide)]
    have hm : mapperOfId (romMapperId (header 1#8 0#8 0#8 0#8 ++ List.replicate 16384 0#8))
        = some .fixed := rfl
    have hb : romPrgBanks (header 1#8 0#8 0#8 0#8 ++ List.replicate 16384 0#8) = 1 := rfl
    have hl : romLength (header 1#8 0#8 0#8 0#8 ++ List.replicate 16384 0#8) = 16400 := rfl
    rw [hm]
    dsimp only
    have hn : ¬ (header 1#8 0#8 0#8 0#8 ++ List.replicate 16384 0#8).length < 16400 := by
      rw [List.length_append, List.length_replicate]
      show ¬ (16 + 16384 < 16400)
      omega
    rw [hb, hl, if_neg (by decide), if_neg hn]
  case k => rfl

/-- `LoadReadsTheHeader`: the clauses of the files that are turned away. -/
theorem witness_LoadReadsTheHeader_turned_away :
    romSignatureOk [0x00#8] = false ∧ romSignatureOk (header 1#8 1#8 0x10#8 0x00#8) = true
    ∧ romMapperOk (header 1#8 1#8 0x10#8 0x00#8) = false
    ∧ romSignatureOk (header 0#8 0#8 0x00#8 0x00#8) = true ∧ romMapperOk (header 0#8 0#8 0x00#8 0x00#8) = true
    ∧ ((header 0#8 0#8 0x00#8 0x00#8).getD 4 0#8).toNat * 16384 = 0
    ∧ romSignatureOk (header 1#8 0#8 0x24#8 0x00#8) = true ∧ romMapperOk (header 1#8 0#8 0x24#8 0x00#8) = true
    ∧ ((header 1#8 0#8 0x24#8 0x00#8).getD 4 0#8).toNat * 16384 ≠ 0
    ∧ (header 1#8 0#8 0x24#8 0x00#8).length < 16 + 512 + 16384 := by
  decide

/-- `PpuSpaceIsMirrored`: a nametable mirror, a palette alias, two different bytes, pattern ROM. -/
theorem witness_PpuSpaceIsMirrored :
    samePpuByte .horizontal 0x2000 0x2400 ∧ ¬ samePpuByte .vertical 0x2000 0x2400
    ∧ samePpuByte .horizontal 0x2EFF 0x3EFF ∧ samePpuByte .vertical 0x3F00 0x3F10
    ∧ ¬ samePpuByte .vertical 0x3F01 0x3F11 ∧ samePpuByte .vertical 0x1FFF 0x1FFF
    ∧ Cartridge.blank.chrBanks = 0 ∧ ({ Cartridge.blank with chrBanks := 1 } : Cartridge).chrBanks ≠ 0 := by
  simp [samePpuByte, sameNametable, paletteEntry, Cartridge.blank]

/-- `FetchAddresses`: the last row of each sprite height. -/
theorem witness_FetchAddresses :
    (7 : Nat) < (if Ppu.reset.ctrl.toNat / 32 % 2 = 1 then 16 else 8)
    ∧ (15 : Nat) < if ({ Ppu.reset with ctrl := 0x20#8 } : Ppu).ctrl.toNat / 32 % 2 = 1 then 16 else 8 := by
  decide

/-- `FrameHas89342Ticks`: the corners of the grid. -/
theorem witness_FrameHas89342Ticks :
    ∀ k ∈ [0, 340], ∀ l ∈ [(-1 : Int), 260], ∃ p : Ppu, p.cycle = k ∧ p.scanline = l ∧ p.cycle < 341
      ∧ -1 ≤ p.scanline ∧ p.scanline ≤ 260 := by
  intro k hk l hl
  refine ⟨{ Ppu.reset with cycle := k, scanline := l }, rfl, rfl, ?_⟩
  revert k l
  decide

/-- `BackgroundShiftersAndLatches`: the first and the last clock of each fetch range, and the clocks beside
them. -/
theorem witness_BackgroundShiftersAndLatches :
    (∀ k ∈ [2, 257, 321, 337], ∀ l ∈ [(-1 : Int), 239],
      fetching { Ppu.reset with cycle := k, scanline := l })
    ∧ ∀ k ∈ [0, 1, 258, 320, 338, 340], ¬ fetching { Ppu.reset with cycle := k, scanline := 0 } := by
  unfold fetching
  decide

/-- `VblankOncePerFrame`, `RenderingOffLeavesTheAddress`, `OnePixelPerVisibleClock`: the positions and the
mask they name. -/
theorem witness_pipeline_positions :
    (∃ p : Ppu, p.scanline = -1 ∧ p.cycle = 1) ∧ (∃ p : Ppu, p.scanline = 241 ∧ p.cycle = 1)
    ∧ (0xE7#8).toNat / 8 % 4 = 0
    ∧ (∃ p : Ppu, p.frame.length = 240 ∧ visible p)
    ∧ ∃ p : Ppu, p.frame.length = 240 ∧ ¬ visible p :=
  ⟨⟨{ Ppu.reset with scanline := -1, cycle := 1 }, rfl, rfl⟩,
   ⟨{ Ppu.reset with scanline := 241, cycle := 1 }, rfl, rfl⟩, by decide,
   ⟨{ Ppu.reset with scanline := 239, cycle := 256 }, by unfold visible; decide +kernel⟩,
   ⟨Ppu.reset, by unfold visible; decide +kernel⟩⟩

/-- `SpriteEvaluation`: an object memory of zeros puts all 64 objects on scanline 0, eight are listed and
the overflow flag rises. -/
theorem witness_SpriteEvaluation :
    (spriteEval 0 Ppu.reset).sprList = [0, 1, 2, 3, 4, 5, 6, 7]
    ∧ (spriteEval 0 Ppu.reset).sprovf = true
    ∧ ((Memory.read Ppu.reset.oam (4 * (8 : Fin 64).val)).toNat ≤ 0
      ∧ 0 < (Memory.read Ppu.reset.oam (4 * (8 : Fin 64).val)).toNat + 8) := by
  decide +kernel

/-- A picture processor whose background and object 0 both show at cycle 9 of scanline 1. -/
def hitting : Ppu :=
  { Ppu.reset with
    scanline := 1, cycle := 9, mask := 0x18#8, shPatLo := 0xFFFF#16, sprList := [0],
    oam := [(3, 8#8)] }

/-- `PixelResolution`: the conditions of the rising flag and of the sprite pixel, at the first column past
the left edge; the hit rises at a visible position and falls at the pre-render scanline. -/
theorem witness_PixelResolution :
    hitting.spr0hit = false ∧ visible hitting
    ∧ (let c := { Cartridge.blank with chr := [(0, 0x80#8)] }
       (bgPixel (atPixel c hitting)).p ≠ 0 ∧ (spritePixel c hitting 1 8).px.p ≠ 0
       ∧ (spritePixel c hitting 1 8).zero = true ∧ objectBits c hitting 1 8 0 = 1
       ∧ objectBits c hitting 1 7 0 = 0)
    ∧ hitting.sprList = [] ++ (0 : Fin 64) :: [] ∧ hitting.mask.toNat / 8 % 4 = 3
    ∧ (ppuClock { Cartridge.blank with chr := [(0, 0x80#8)] } hitting).spr0hit = true
    ∧ (ppuClock Cartridge.blank { Ppu.reset with scanline := -1, cycle := 1, spr0hit := true }).spr0hit
      = false := by
  unfold visible
  decide +kernel

/-- `DmaCopiesOnePage`: both ends of both ranges of pages. -/
theorem witness_DmaCopiesOnePage :
    (0x00#8).toNat < 0x20 ∧ (0x1F#8).toNat < 0x20 ∧ 0x41 ≤ (0x41#8).toNat ∧ 0x41 ≤ (0xFF#8).toNat := by
  decide

/-- `CpuIsClockedOneTickInThree`: both grounds, with nothing asked for. -/
theorem witness_CpuIsClockedOneTickInThree :
    (∃ s : State, s.quiet ∧ s.master % 3 ≠ 0) ∧ ∃ s : State, s.quiet ∧ s.dma.active = true :=
  ⟨⟨{ ready with master := 1 }, ⟨rfl, rfl⟩, by decide⟩,
   ⟨{ ready with dma := { Dma.reset with active := true } }, ⟨rfl, rfl⟩, rfl⟩⟩

/-- `StepKeepsTheInvariant`: a state with the invariant, and its step. -/
theorem witness_StepKeepsTheInvariant :
    ∃ s t : State, s.Inv ∧ step s = .next t :=
  ⟨{ ready with a := 0x42#8, p := 0x21#8 }, _,
   { cpu := by decide +kernel
     ram := by decide +kernel
     dma := by decide +kernel
     cart := by decide +kernel
     ppu :=
      { cycle := by decide, scanline := by decide, fineX := by decide, sprCount := by decide,
        sprOrder := by decide, nmiRequest := rfl, oam := by decide, nt0 := by decide, nt1 := by decide,
        pal := by decide, frameRows := by decide +kernel, frame := by decide +kernel } }, rfl⟩

end Sys2Proof.Tests
end

/-! ## What the CPU does to the machine

Fetching, the body of an instruction and the entry of an interrupt change the machine by bus accesses and by
writes of CPU registers, and by nothing else (`40` R130, R153). -/

namespace Sys2Proof.Machine

/-- `t` comes from `s` by bus reads, bus writes and writes of CPU registers. -/
inductive Accesses (s : State) : State → Prop
  | refl : Accesses s s
  | read {t : State} (adr : Addr) : Accesses s t → Accesses s (busEffect t adr)
  | write {t : State} (adr : Addr) (v : Byte) : Accesses s t → Accesses s (memWrite t adr v)
  | regs {t : State} (a x y sp : Byte) (pc : Addr) (p : Byte) (cycles : Nat) (jammed : Bool) :
      Accesses s t →
      Accesses s { t with a := a, x := x, y := y, sp := sp, pc := pc, p := p, cycles := cycles,
                          jammed := jammed }

theorem Accesses.trans {s t u : State} (h : Accesses s t) (g : Accesses t u) : Accesses s u := by
  induction g with
  | refl => exact h
  | read adr _ ih => exact ih.read adr
  | write adr v _ ih => exact ih.write adr v
  | regs a x y sp pc p cycles jammed _ ih => exact ih.regs a x y sp pc p cycles jammed

/-- Accesses that leave the break flag and the stuck state as they were, as all do that neither pull the
status nor Jam (`10` R25). -/
structure Works (s t : State) : Prop where
  accesses : Accesses s t
  jammed   : t.jammed = s.jammed
  brk      : t.flag .b = s.flag .b

namespace Works

variable {s t u : State}

@[simp] theorem refl (s : State) : Works s s := ⟨.refl, rfl, rfl⟩

theorem trans (h : Works s t) (g : Works t u) : Works s u :=
  ⟨h.accesses.trans g.accesses, g.jammed.trans h.jammed, g.brk.trans h.brk⟩

theorem read (h : Works s t) (adr : Addr) : Works s (busEffect t adr) :=
  ⟨h.accesses.read adr, (busEffect_jammed t adr).trans h.jammed,
   (Rule.busEffect_flag t adr .b).trans h.brk⟩

theorem write (h : Works s t) (adr : Addr) (v : Byte) : Works s (memWrite t adr v) :=
  ⟨h.accesses.write adr v, (memWrite_jammed t adr v).trans h.jammed,
   (congrArg (getFlag · .b) (memWrite_p t adr v)).trans h.brk⟩

/-- Registers written, with a status that has the same break flag. -/
theorem regs (h : Works s t) {a x y sp : Byte} {pc : Addr} {p : Byte} (hp : getFlag p .b = t.flag .b) :
    Works s { t with a := a, x := x, y := y, sp := sp, pc := pc, p := p } :=
  ⟨h.accesses.regs a x y sp pc p t.cycles t.jammed, h.jammed, hp.trans h.brk⟩

/-- The status written, break as it was. -/
theorem setP {p : Byte} (hp : getFlag p .b = s.flag .b) : Works s (s.setP p) :=
  (refl s).regs hp

theorem setA (s : State) (v : Byte) : Works s (s.setA v) := (refl s).regs rfl
theorem setX (s : State) (v : Byte) : Works s (s.setX v) := (refl s).regs rfl
theorem setY (s : State) (v : Byte) : Works s (s.setY v) := (refl s).regs rfl
theorem setSp (s : State) (v : Byte) : Works s (s.setSp v) := (refl s).regs rfl
theorem setPc (s : State) (v : Addr) : Works s (s.setPc v) := (refl s).regs rfl

theorem setFlagTo (s : State) {f : StatusFlag} (hf : f ≠ .b) (v : Bool) : Works s (s.setFlagTo f v) :=
  setP (getFlag_setFlag_other s.p f .b v hf)

theorem setZN (s : State) (v : Byte) : Works s (s.setZN v) :=
  setP (by simp [getFlag_setZN, State.flag])

end Works

/-! ### The bodies of the instructions -/

variable (s : State) (m v : Byte)

@[simp] theorem works_loadA : Works s (loadA m s) := (Works.setA s m).trans (.setZN _ m)
@[simp] theorem works_loadX : Works s (loadX m s) := (Works.setX s m).trans (.setZN _ m)
@[simp] theorem works_loadY : Works s (loadY m s) := (Works.setY s m).trans (.setZN _ m)
@[simp] theorem works_loadAX : Works s (loadAX m s) :=
  ((Works.setA s m).trans (.setX _ m)).trans (.setZN _ m)
@[simp] theorem works_taxBody : Works s (taxBody s) := works_loadX s s.a
@[simp] theorem works_tayBody : Works s (tayBody s) := works_loadY s s.a
@[simp] theorem works_txaBody : Works s (txaBody s) := works_loadA s s.x
@[simp] theorem works_tyaBody : Works s (tyaBody s) := works_loadA s s.y
@[simp] theorem works_tsxBody : Works s (tsxBody s) := works_loadX s s.sp
@[simp] theorem works_txsBody : Works s (txsBody s) := .setSp s s.x
@[simp] theorem works_inxBody : Works s (inxBody s) := works_loadX s (s.x + 1)
@[simp] theorem works_inyBody : Works s (inyBody s) := works_loadY s (s.y + 1)
@[simp] theorem works_dexBody : Works s (dexBody s) := works_loadX s (s.x - 1)
@[simp] theorem works_deyBody : Works s (deyBody s) := works_loadY s (s.y - 1)

@[simp] theorem works_addWithCarry : Works s (addWithCarry m s) :=
  ((Works.setP (by simp [getFlag_setFlag, State.flag])).trans (.setA _ _)).trans (.setZN _ _)
@[simp] theorem works_subtract : Works s (subtract m s) := works_addWithCarry s _
@[simp] theorem works_andA : Works s (andA m s) := works_loadA s _
@[simp] theorem works_orA : Works s (orA m s) := works_loadA s _
@[simp] theorem works_eorA : Works s (eorA m s) := works_loadA s _
@[simp] theorem works_compareA : Works s (compareA m s) :=
  .setP (by simp [getFlag_compareFlags, State.flag])
@[simp] theorem works_compareX : Works s (compareX m s) :=
  .setP (by simp [getFlag_compareFlags, State.flag])
@[simp] theorem works_compareY : Works s (compareY m s) :=
  .setP (by simp [getFlag_compareFlags, State.flag])
@[simp] theorem works_bitTest : Works s (bitTest m s) :=
  .setP (by simp [getFlag_setFlag, State.flag])

@[simp] theorem works_afterCount : Works s (afterCount m v s) := .setZN s v
@[simp] theorem works_afterLeft : Works s (afterLeft m v s) :=
  (Works.setFlagTo s (by decide) _).trans (.setZN _ v)
@[simp] theorem works_afterRight : Works s (afterRight m v s) :=
  (Works.setFlagTo s (by decide) _).trans (.setZN _ v)
@[simp] theorem works_afterDcp : Works s (afterDcp m v s) := works_compareA s v
@[simp] theorem works_afterIsc : Works s (afterIsc m v s) := works_subtract s v
@[simp] theorem works_afterSlo : Works s (afterSlo m v s) :=
  (Works.setFlagTo s (by decide) _).trans (works_orA _ v)
@[simp] theorem works_afterRla : Works s (afterRla m v s) :=
  (Works.setFlagTo s (by decide) _).trans (works_andA _ v)
@[simp] theorem works_afterSre : Works s (afterSre m v s) :=
  (Works.setFlagTo s (by decide) _).trans (works_eorA _ v)
@[simp] theorem works_afterRra : Works s (afterRra m v s) :=
  (Works.setFlagTo s (by decide) _).trans (works_addWithCarry _ v)
@[simp] theorem works_andShiftA : Works s (andShiftA m s) :=
  (Works.setFlagTo s (by decide) _).trans (works_loadA _ _)
@[simp] theorem works_andCarryA : Works s (andCarryA m s) :=
  (works_andA s m).trans (.setFlagTo _ (by decide) _)

/-! ### The stack -/

@[simp] theorem works_push : Works s (push s v) := ((Works.refl s).write _ v).trans (.setSp _ _)
@[simp] theorem works_pull : Works s (pull s).2 := (Works.setSp s _).read _
@[simp] theorem works_pushWord (w : Addr) : Works s (pushWord s w) :=
  (works_push s _).trans (works_push _ _)
@[simp] theorem works_pullWord : Works s (pullWord s).2 := (works_pull s).trans (works_pull _)
@[simp] theorem works_readVector (vec : Addr) : Works s (readVector s vec).2 :=
  ((Works.refl s).read _).read _
@[simp] theorem works_phaBody : Works s (phaBody s) := works_push s _
@[simp] theorem works_phpBody : Works s (phpBody s) := works_push s _
@[simp] theorem works_plaBody : Works s (plaBody s) := (works_pull s).trans (works_loadA _ _)
@[simp] theorem works_jsrBody (w : Addr) : Works s (jsrBody w s) :=
  (works_pushWord s _).trans (.setPc _ w)
@[simp] theorem works_rtsBody : Works s (rtsBody s) := (works_pullWord s).trans (.setPc _ _)

/-- The entry of a handler pushes, sets `P.I` and reads the vector (`60` R410, `45` R302). -/
theorem works_enterHandler (status : Byte) (vec : Addr) : Works s (enterHandler status vec s) := by
  have hpush := (works_pushWord s s.pc).trans (works_push _ status)
  have hset := hpush.trans (.setFlagTo _ (f := .i) (by decide) true)
  have hread := hset.trans (works_readVector _ vec)
  exact hread.trans (.setPc _ _)

@[simp] theorem works_brkBody : Works s (brkBody s) :=
  (Works.setPc s _).trans (works_enterHandler _ _ _)

/-! Pulling the status leaves break 0 (`45` R293, R303). -/

theorem accesses_plpBody : Accesses s (plpBody s) :=
  (works_pull s).accesses.regs _ _ _ _ _ _ _ _

@[simp] theorem plpBody_jammed : (plpBody s).jammed = s.jammed := (works_pull s).jammed

theorem plpBody_brk : (plpBody s).flag .b = false := by
  simp [plpBody, State.flag, getFlag_pulledStatus]

theorem accesses_returnFromHandler : Accesses s (returnFromHandler s) := by
  rw [returnFromHandler_eq]; exact Accesses.refl.regs s.a s.x s.y _ _ _ s.cycles s.jammed

theorem returnFromHandler_jammed : (returnFromHandler s).jammed = s.jammed := by
  rw [returnFromHandler_eq]

theorem returnFromHandler_brk : (returnFromHandler s).flag .b = false := by
  rw [returnFromHandler_eq]; simp [State.flag, getFlag_pulledStatus]

/-! ### The addressing modes -/

variable (zp : Byte) (w : Addr)

@[simp] theorem works_eaZp0 : Works s (eaZp0 zp s).st := .refl s
@[simp] theorem works_eaZpx : Works s (eaZpx zp s).st := .refl s
@[simp] theorem works_eaZpy : Works s (eaZpy zp s).st := .refl s
@[simp] theorem works_eaAbs : Works s (eaAbs w s).st := .refl s
@[simp] theorem works_eaAbx : Works s (eaAbx w s).st := .refl s
@[simp] theorem works_eaAby : Works s (eaAby w s).st := .refl s
@[simp] theorem works_eaInd : Works s (eaInd w s).st := ((Works.refl s).read _).read _
@[simp] theorem works_eaIzx : Works s (eaIzx zp s).st := ((Works.refl s).read _).read _
@[simp] theorem works_eaIzy : Works s (eaIzy zp s).st := ((Works.refl s).read _).read _

/-! ### The shapes of an instruction -/

/-- An instruction completes: a next state made by accesses, 2 to 8 cycles, the always-set flag 1, break as
announced, not Jammed by it (`40` R133, R134; `10` R24 to R26). -/
structure Completes (s : State) (b : Bool) (t : State) : Prop where
  accesses : Accesses s t
  cycles   : 2 ≤ t.cycles ∧ t.cycles ≤ 8
  unused   : t.flag .u = true
  jammed   : t.jammed = s.jammed
  brk      : t.flag .b = b

/-- The outcome is a next state in which the instruction is complete. -/
def Finishes (s : State) (b : Bool) (o : Out) : Prop := ∃ t, o = .next t ∧ Completes s b t

variable {s}

/-- Steps 5 and 6 of `clock()` on the state after the body. -/
theorem finishes_of_accesses {u : State} {b af xf : Bool} {base bp : Nat} (ha : Accesses s u)
    (hj : u.jammed = s.jammed) (hb : u.flag .b = b) (hlo : 2 ≤ base)
    (hhi : base + (af && xf).toNat + bp ≤ 8) : Finishes s b (finish base af xf bp u) :=
  ⟨_, rfl, ha.regs _ _ _ _ _ _ _ _, ⟨by simp; omega, hhi⟩, getFlag_setFlag_same _ _ _, hj,
   (getFlag_setFlag_other _ _ _ _ (by decide)).trans hb⟩

theorem finishes_of_works {u : State} {af xf : Bool} {base bp : Nat} (h : Works s u) (hlo : 2 ≤ base)
    (hhi : base + (af && xf).toNat + bp ≤ 8) : Finishes s (s.flag .b) (finish base af xf bp u) :=
  finishes_of_accesses h.accesses h.jammed h.brk hlo hhi

section

variable {base : Nat} {e : Ea} {body : Byte → State → State} {after : Byte → Byte → State → State}

theorem finishes_impOp {f : State → State} (hlo : 2 ≤ base) (hhi : base ≤ 8) (hf : Works s (f s)) :
    Finishes s (s.flag .b) (impOp base f s) :=
  finishes_of_works hf hlo (by simpa using hhi)

theorem finishes_immOp {imm : Byte} (hlo : 2 ≤ base) (hhi : base ≤ 8) (hf : ∀ m u, Works u (body m u)) :
    Finishes s (s.flag .b) (immOp base body imm s) :=
  finishes_of_works (hf imm s) hlo (by simpa using hhi)

theorem finishes_readOp {xf : Bool} (hlo : 2 ≤ base) (hhi : base ≤ 7) (he : Works s e.st)
    (hf : ∀ m u, Works u (body m u)) : Finishes s (s.flag .b) (readOp base xf body e) :=
  finishes_of_works ((he.read e.addr).trans (hf _ _)) hlo
    (by have := Bool.toNat_le (e.af && xf); omega)

theorem finishes_storeOp {value : State → Byte} (hlo : 2 ≤ base) (hhi : base ≤ 8) (he : Works s e.st) :
    Finishes s (s.flag .b) (storeOp base value e) :=
  finishes_of_works (he.write e.addr _) hlo (by simpa using hhi)

theorem finishes_rmwOp {result : Byte → Bool → Byte} (hlo : 2 ≤ base) (hhi : base ≤ 8)
    (he : Works s e.st) (hf : ∀ m v u, Works u (after m v u)) :
    Finishes s (s.flag .b) (rmwOp base result after e) :=
  finishes_of_works (((he.read e.addr).write e.addr _).trans (hf _ _ _)) hlo (by simpa using hhi)

theorem finishes_accOp {result : Byte → Bool → Byte} (hlo : 2 ≤ base) (hhi : base ≤ 8)
    (hf : ∀ m v u, Works u (after m v u)) : Finishes s (s.flag .b) (accOp base result after s) :=
  finishes_of_works ((hf _ _ s).trans (.setA _ _)) hlo (by simpa using hhi)

theorem finishes_nopOp (hlo : 2 ≤ base) (hhi : base ≤ 7) (he : Works s e.st) :
    Finishes s (s.flag .b) (nopOp base e) :=
  finishes_of_works he hlo (by have := Bool.toNat_le (e.af && true); omega)

theorem finishes_jumpOp (hlo : 2 ≤ base) (hhi : base ≤ 8) (he : Works s e.st) :
    Finishes s (s.flag .b) (jumpOp base e) :=
  finishes_of_works (he.trans (.setPc _ _)) hlo (by simpa using hhi)

theorem finishes_branchOp (cond : Bool) (rel : Byte) :
    Finishes s (s.flag .b) (branchOp cond rel s) := by
  unfold branchOp
  dsimp only
  split
  · refine finishes_of_works (.setPc s _) (le_refl 2) ?_
    split <;> decide
  · exact finishes_of_works (.refl s) (le_refl 2) (by decide)

end

end Sys2Proof.Machine

/-! ## Every instruction -/

namespace Sys2Proof.Machine

open Rule

/-- Every instruction but the Jamming ones and the two that pull the status completes with break as it was. -/
theorem exec_finishes (i : Instr) (s : State) (hj : jams i = false) (hplp : i ≠ .plp) (hrti : i ≠ .rti) :
    Finishes s (s.flag .b) (exec i s) := by
  cases i
  case oraIzx | oraZp0 | oraAbs | oraIzy | oraZpx | oraAby | oraAbx | andIzx | bitZp0 | andZp0 |
      bitAbs | andAbs | andIzy | andZpx | andAby | andAbx | eorIzx | eorZp0 | eorAbs | eorIzy |
      eorZpx | eorAby | eorAbx | adcIzx | adcZp0 | adcAbs | adcIzy | adcZpx | adcAby | adcAbx |
      ldaIzx | laxIzx | ldyZp0 | ldaZp0 | ldxZp0 | laxZp0 | ldyAbs | ldaAbs | ldxAbs | laxAbs |
      ldaIzy | laxIzy | ldyZpx | ldaZpx | ldxZpy | laxZpy | ldaAby | ldyAbx | ldaAbx | ldxAby |
      laxAby | cmpIzx | cpyZp0 | cmpZp0 | cpyAbs | cmpAbs | cmpIzy | cmpZpx | cmpAby | cmpAbx |
      sbcIzx | cpxZp0 | sbcZp0 | cpxAbs | sbcAbs | sbcIzy | sbcZpx | sbcAby | sbcAbx =>
    exact finishes_readOp (by decide) (by decide) (by simp) (by simp)
  case oraImm | anc0B | andImm | anc2B | eorImm | alrImm | adcImm | ldyImm | ldxImm | ldaImm |
      cpyImm | cmpImm | cpxImm | sbcImm | sbcEB =>
    exact finishes_immOp (by decide) (by decide) (by simp)
  case staIzx | saxIzx | styZp0 | staZp0 | stxZp0 | saxZp0 | styAbs | staAbs | stxAbs | saxAbs |
      staIzy | styZpx | staZpx | stxZpy | saxZpy | staAby | staAbx =>
    exact finishes_storeOp (by decide) (by decide) (by simp)
  case sloIzx | aslZp0 | sloZp0 | aslAbs | sloAbs | sloIzy | aslZpx | sloZpx | sloAby | aslAbx |
      sloAbx | rlaIzx | rolZp0 | rlaZp0 | rolAbs | rlaAbs | rlaIzy | rolZpx | rlaZpx | rlaAby |
      rolAbx | rlaAbx | sreIzx | lsrZp0 | sreZp0 | lsrAbs | sreAbs | sreIzy | lsrZpx | sreZpx |
      sreAby | lsrAbx | sreAbx | rraIzx | rorZp0 | rraZp0 | rorAbs | rraAbs | rraIzy | rorZpx |
      rraZpx | rraAby | rorAbx | rraAbx | dcpIzx | decZp0 | dcpZp0 | decAbs | dcpAbs | dcpIzy |
      decZpx | dcpZpx | dcpAby | decAbx | dcpAbx | iscIzx | incZp0 | iscZp0 | incAbs | iscAbs |
      iscIzy | incZpx | iscZpx | iscAby | incAbx | iscAbx =>
    exact finishes_rmwOp (by decide) (by decide) (by simp) (by simp)
  case aslAcc | rolAcc | lsrAcc | rorAcc =>
    exact finishes_accOp (by decide) (by decide) (by simp)
  case nop04 | nop0C | nop14 | nop1C | nop34 | nop3C | nop44 | nop54 | nop5C | nop64 | nop74 | nop7C
      | nopD4 | nopDC | nopF4 | nopFC =>
    exact finishes_nopOp (by decide) (by decide) (by simp)
  case jmpAbs | jmpInd =>
    exact finishes_jumpOp (by decide) (by decide) (by simp)
  case bpl | bmi | bvc | bvs | bcc | bcs | bne | beq =>
    exact finishes_branchOp _ _
  case brk | php | jsrAbs | pha | rts | pla | dey | txa | tya | txs | tay | tax | tsx | iny | dex |
      inx =>
    exact finishes_impOp (by decide) (by decide) (by simp)
  case clc | sec | cli | sei | cld | sed | clv =>
    exact finishes_of_works (.setFlagTo s (by decide) _) (by decide) (by decide)
  case nop1A | nop3A | nop5A | nop7A | nop80 | nop82 | nop89 | nopC2 | nopDA | nopE2 | nop | nopFA
      =>
    exact finishes_of_works (.refl s) (by decide) (by decide)
  case stp | rsvImm | rsvIzy | rsvAby | rsvAbx =>
    exact nomatch hj
  case plp => exact absurd rfl hplp
  case rti => exact absurd rfl hrti

/-- A Jamming instruction sets the stuck state and does nothing else (log 5). -/
theorem exec_of_jams {i : Instr} (h : jams i = true) (s : State) : exec i s = .next (s.setJammed true) :=
  match i, h with
  | .stp _, _ | .rsvImm _ _, _ | .rsvIzy _, _ | .rsvAby _ _, _ | .rsvAbx _, _ => rfl

/-- PLP completes with break 0 (`45` R293). -/
theorem execPlp_finishes (s : State) : Finishes s false (exec .plp s) :=
  finishes_of_accesses (accesses_plpBody s) (plpBody_jammed s) (plpBody_brk s) (by decide) (by decide)

/-- RTI completes with break 0 (`45` R303). -/
theorem execRti_finishes (s : State) : Finishes s false (exec .rti s) :=
  finishes_of_accesses (accesses_returnFromHandler s) (returnFromHandler_jammed s)
    (returnFromHandler_brk s) (by decide) (by decide)

/-- Every instruction that does not Jam completes. -/
theorem exec_completes (i : Instr) (s : State) (hj : jams i = false) :
    Finishes s (if i = .plp ∨ i = .rti then false else s.flag .b) (exec i s) := by
  by_cases hplp : i = .plp
  · subst hplp
    simpa using execPlp_finishes s
  by_cases hrti : i = .rti
  · subst hrti
    simpa using execRti_finishes s
  · simpa [hplp, hrti] using exec_finishes i s hj hplp hrti

/-- Settles O6: every shape an instruction can have ends in a next state within its bounds. -/
theorem everyInstructionCompletes : Obligations.EveryInstructionCompletes := by
  intro i s
  cases hj : jams i with
  | true => exact ⟨_, exec_of_jams hj s, nofun⟩
  | false =>
    obtain ⟨t, ht, h⟩ := exec_completes i s hj
    exact ⟨t, ht, fun _ => ⟨h.cycles.1, h.cycles.2, h.unused, h.jammed, h.brk⟩⟩


end Sys2Proof.Machine

/-! ## Fetching -/

namespace Sys2Proof

/-- What an entry of the opcode table is, for the opcode it stands at: it encodes to that opcode first, it is
well-formed, and its length does not depend on its operand bytes (`30` R100, R104). -/
@[simp] def EntryOk (op : Byte) (e : Byte → Byte → Instr) : Prop :=
  ∀ b c, (encode (e b c)).head? = some op ∧ (e b c).wellFormed = true
    ∧ (encode (e b c)).length = (encode (e 0#8 0#8)).length

/-- The entries of a list, the first standing at opcode `k`. -/
@[simp] def EntriesOk : Nat → List (Byte → Byte → Instr) → Prop
  | _, [] => True
  | k, e :: r => EntryOk (BitVec.ofNat 8 k) e ∧ EntriesOk (k + 1) r

theorem EntriesOk.append {l r : List (Byte → Byte → Instr)} {k : Nat} (hl : EntriesOk k l)
    (hr : EntriesOk (k + l.length) r) : EntriesOk k (l ++ r) := by
  induction l generalizing k with
  | nil => exact hr
  | cons e l ih =>
    rw [List.length_cons, Nat.add_comm l.length, ← Nat.add_assoc] at hr
    exact ⟨hl.1, ih hl.2 hr⟩

theorem EntriesOk.getD {l : List (Byte → Byte → Instr)} {k j : Nat} (h : EntriesOk k l)
    (hj : j < l.length) (d : Byte → Byte → Instr) : EntryOk (BitVec.ofNat 8 (k + j)) (l.getD j d) := by
  induction l generalizing k j with
  | nil => exact absurd hj (Nat.not_lt_zero j)
  | cons e l ih =>
    cases j with
    | zero => exact h.1
    | succ j =>
      rw [← Nat.add_assoc, Nat.add_right_comm]
      exact ih h.2 (Nat.lt_of_succ_lt_succ hj)

/-! The sixteen rows of the table (`30` R110). -/

theorem entriesOk_opRow0 : EntriesOk 0x00 opRow0 := by
  simp [opRow0, encode, Instr.wellFormed, stpOpcodes]
theorem entriesOk_opRow1 : EntriesOk 0x10 opRow1 := by
  simp [opRow1, encode, Instr.wellFormed, stpOpcodes]
theorem entriesOk_opRow2 : EntriesOk 0x20 opRow2 := by
  simp [opRow2, encode, Instr.wellFormed, stpOpcodes]
theorem entriesOk_opRow3 : EntriesOk 0x30 opRow3 := by
  simp [opRow3, encode, Instr.wellFormed, stpOpcodes]
theorem entriesOk_opRow4 : EntriesOk 0x40 opRow4 := by
  simp [opRow4, encode, Instr.wellFormed, stpOpcodes]
theorem entriesOk_opRow5 : EntriesOk 0x50 opRow5 := by
  simp [opRow5, encode, Instr.wellFormed, stpOpcodes]
theorem entriesOk_opRow6 : EntriesOk 0x60 opRow6 := by
  simp [opRow6, encode, Instr.wellFormed, stpOpcodes, rsvImmOpcodes]
theorem entriesOk_opRow7 : EntriesOk 0x70 opRow7 := by
  simp [opRow7, encode, Instr.wellFormed, stpOpcodes]
theorem entriesOk_opRow8 : EntriesOk 0x80 opRow8 := by
  simp [opRow8, encode, Instr.wellFormed, rsvImmOpcodes]
theorem entriesOk_opRow9 : EntriesOk 0x90 opRow9 := by
  simp [opRow9, encode, Instr.wellFormed, stpOpcodes, rsvAbyOpcodes]
theorem entriesOk_opRowA : EntriesOk 0xA0 opRowA := by
  simp [opRowA, encode, Instr.wellFormed, rsvImmOpcodes]
theorem entriesOk_opRowB : EntriesOk 0xB0 opRowB := by
  simp [opRowB, encode, Instr.wellFormed, stpOpcodes, rsvAbyOpcodes]
theorem entriesOk_opRowC : EntriesOk 0xC0 opRowC := by
  simp [opRowC, encode, Instr.wellFormed, rsvImmOpcodes]
theorem entriesOk_opRowD : EntriesOk 0xD0 opRowD := by
  simp [opRowD, encode, Instr.wellFormed, stpOpcodes]
theorem entriesOk_opRowE : EntriesOk 0xE0 opRowE := by
  simp [opRowE, encode, Instr.wellFormed]
theorem entriesOk_opRowF : EntriesOk 0xF0 opRowF := by
  simp [opRowF, encode, Instr.wellFormed, stpOpcodes]

theorem entriesOk_opTable : EntriesOk 0 opTable := by
  simp only [opTable, List.append_assoc]
  exact entriesOk_opRow0.append (entriesOk_opRow1.append (entriesOk_opRow2.append
    (entriesOk_opRow3.append (entriesOk_opRow4.append (entriesOk_opRow5.append
    (entriesOk_opRow6.append (entriesOk_opRow7.append (entriesOk_opRow8.append
    (entriesOk_opRow9.append (entriesOk_opRowA.append (entriesOk_opRowB.append
    (entriesOk_opRowC.append (entriesOk_opRowD.append (entriesOk_opRowE.append
    entriesOk_opRowF))))))))))))))

theorem length_opTable : opTable.length = 256 := by decide +kernel

theorem entryOk_decodeBytes (op b c : Byte) :
    (encode (decodeBytes op b c)).head? = some op ∧ (decodeBytes op b c).wellFormed = true
      ∧ (encode (decodeBytes op b c)).length = instrLength op := by
  have hop : op.toNat < opTable.length := length_opTable ▸ op.isLt
  have h := entriesOk_opTable.getD hop (fun _ _ => .stp op) b c
  rwa [Nat.zero_add, BitVec.ofNat_toNat, BitVec.setWidth_eq] at h

/-- An instruction is 1, 2 or 3 bytes long (`30` R100). -/
theorem instrLength_cases :
    ∀ op : Byte, instrLength op = 1 ∨ instrLength op = 2 ∨ instrLength op = 3 := by
  decide +kernel

end Sys2Proof

namespace Sys2Proof.Machine

open Rule

/-- `n` bytes of the instruction stream were passed: `PC` moved past them, and the bus reads had no effect but
their own (`40` R131, `20` R77). -/
structure Fetched (n : Nat) (s t : State) : Prop where
  pc     : t.pc = s.pc + word n
  a      : t.a = s.a
  x      : t.x = s.x
  y      : t.y = s.y
  sp     : t.sp = s.sp
  p      : t.p = s.p
  cycles : t.cycles = s.cycles
  jammed : t.jammed = s.jammed
  ram    : t.ram = s.ram
  cart   : t.cart = s.cart
  dma    : t.dma = s.dma
  accesses : Accesses s t

theorem Fetched.refl (s : State) : Fetched 0 s s where
  pc := (BitVec.add_zero _).symm
  a := rfl
  x := rfl
  y := rfl
  sp := rfl
  p := rfl
  cycles := rfl
  jammed := rfl
  ram := rfl
  cart := rfl
  dma := rfl
  accesses := .refl

theorem Fetched.trans {m n : Nat} {s t u : State} (h : Fetched m s t) (g : Fetched n t u) :
    Fetched (m + n) s u where
  pc := by rw [g.pc, h.pc, BitVec.add_assoc, ← BitVec.ofNat_add]
  a := g.a.trans h.a
  x := g.x.trans h.x
  y := g.y.trans h.y
  sp := g.sp.trans h.sp
  p := g.p.trans h.p
  cycles := g.cycles.trans h.cycles
  jammed := g.jammed.trans h.jammed
  ram := g.ram.trans h.ram
  cart := g.cart.trans h.cart
  dma := g.dma.trans h.dma
  accesses := h.accesses.trans g.accesses

theorem fetched_fetchByte (s : State) : Fetched 1 s (fetchByte s).2 := by
  constructor
  case pc => rfl
  case accesses => exact (Works.refl s |>.read _ |>.trans (.setPc _ _)).accesses
  all_goals simp [fetchByte_eq]

theorem fetched_skipByte (s : State) : Fetched 1 s (skipByte s).2 := by
  constructor
  case accesses => exact (Works.setPc s _).accesses
  all_goals rfl

theorem fetched_fetchOperands (op : Byte) (s : State) :
    Fetched (instrLength op - 1) s (fetchOperands op s).2.2 := by
  unfold fetchOperands
  rcases instrLength_cases op with h | h | h
  · simp only [h]
    exact .refl s
  · simp only [h]
    cases operandUnread op
    · exact fetched_fetchByte s
    · exact fetched_skipByte s
  · simp only [h]
    exact (fetched_fetchByte s).trans (fetched_fetchByte _)

/-- The instruction fetched is the one its opcode byte at `PC` begins, with some operand bytes. -/
theorem fetch_fst (s : State) : ∃ b c, (fetch s).1 = decodeBytes (busValue s s.pc) b c := ⟨_, _, rfl⟩

/-- A fetch passes the bytes of the instruction it answers (`40` R131). -/
theorem fetched_fetch (s : State) : Fetched (encode (fetch s).1).length s (fetch s).2 := by
  have h := (fetched_fetchByte s).trans (fetched_fetchOperands (fetchByte s).1 _)
  obtain ⟨b, c, hi⟩ := fetch_fst s
  have hlen : (encode (fetch s).1).length = 1 + (instrLength (fetchByte s).1 - 1) := by
    rw [hi, (entryOk_decodeBytes _ b c).2.2]
    rcases instrLength_cases (busValue s s.pc) with h | h | h <;> simp [fetchByte_eq, h]
  rw [hlen]
  exact h

/-- Settles O4: the opcode byte decides the instruction and its length, and a fetch passes that many bytes. -/
theorem fetchMovesPastTheInstruction : Obligations.FetchMovesPastTheInstruction := by
  intro s
  obtain ⟨b, c, hi⟩ := fetch_fst s
  obtain ⟨hhead, hwf, -⟩ := entryOk_decodeBytes (busValue s s.pc) b c
  have h := fetched_fetch s
  have hpc : (fetch s).2.pc = word (s.pc.toNat + (encode (fetch s).1).length) := by
    simp only [h.pc, word, BitVec.ofNat_add, BitVec.ofNat_toNat, BitVec.setWidth_eq]
  exact ⟨hi ▸ hhead, hi ▸ hwf, hpc, h.a, h.x, h.y, h.sp, h.p, h.cycles, h.ram, h.cart, h.dma⟩

end Sys2Proof.Machine

/-! ## The invariant

Inside a tick an NMI request may stand; everything else of the invariant's memory part holds there too. -/

namespace Sys2Proof.Machine

open Rule

theorem Memory.ok_write {n : Nat} {m : Memory} (hm : Memory.ok n m) {i : Nat} (hi : i < n) (v : Byte) :
    Memory.ok n (Memory.write m i v) :=
  ⟨Memory.wf_write hm.1 i v, Memory.within_write hm.2 hi⟩

/-- `PalIndex` never answers one of the four indices that stand for another (`62` R534). -/
theorem palIndex_bounds (adr : BitVec 14) :
    palIndex adr < 32 ∧ palIndex adr ≠ 0x10 ∧ palIndex adr ≠ 0x14 ∧ palIndex adr ≠ 0x18
      ∧ palIndex adr ≠ 0x1C := by
  have hlt : (adr &&& 0x1F#14).toNat < 32 := by
    rw [BitVec.toNat_and]
    exact Nat.lt_of_le_of_lt Nat.and_le_right (by decide)
  unfold palIndex
  dsimp only
  split <;> omega

theorem Memory.palOk_write {m : Memory} (hm : Memory.palOk m) (adr : BitVec 14) (v : Byte) :
    Memory.palOk (Memory.write m (palIndex adr) v) := by
  obtain ⟨hlt, hne⟩ := palIndex_bounds adr
  refine ⟨Memory.ok_write hm.1 hlt v, fun c hc => ?_⟩
  rcases Memory.mem_write hc with ⟨rfl, -⟩ | hc
  · exact hne
  · exact hm.2 c hc

theorem ntOffset_lt (adr : BitVec 14) : ntOffset adr < 1024 := by
  unfold ntOffset
  rw [BitVec.toNat_and]
  exact Nat.lt_of_le_of_lt Nat.and_le_right (by decide)

/-- The picture processor's part of the invariant, whether or not an NMI request stands. -/
def Ppu.Sound (p : Ppu) : Prop := Ppu.Ok { p with nmiRequest := false }

theorem Ppu.Sound.ok {p : Ppu} (h : p.Sound) (hn : p.nmiRequest = false) : p.Ok :=
  { h with nmiRequest := hn }

theorem Ppu.Ok.sound {p : Ppu} (h : p.Ok) : p.Sound := { h with nmiRequest := rfl }

/-! ### The registers of the picture processor -/

theorem ppuRegReadEffect_sound {s : State} (h : s.ppu.Sound) (n : BitVec 3) :
    (ppuRegReadEffect s n).ppu.Sound := by
  unfold ppuRegReadEffect
  split
  · exact { h with }
  split
  · exact { h with }
  · exact h

theorem scrollWrite_sound {p : Ppu} (h : p.Sound) (d : Byte) : (scrollWrite d p).Sound := by
  unfold scrollWrite
  split
  · exact { h with }
  · refine { h with fineX := ?_ }
    have := (d.extractLsb' 0 3).isLt
    show (BitVec.setWidth 8 _).toNat < 8
    rw [BitVec.toNat_setWidth]
    omega

theorem addrWrite_sound {p : Ppu} (h : p.Sound) (d : Byte) : (addrWrite d p).Sound := by
  unfold addrWrite
  split
  · exact { h with }
  · exact { h with }

theorem oamDataWrite_sound {p : Ppu} (h : p.Sound) (d : Byte) : (oamDataWrite d p).Sound :=
  { h with oam := Memory.ok_write h.oam p.oamAddr.isLt d }

/-- What a write through the picture processor's data register keeps (`62` R531 to R534). -/
theorem ppuWrite_sound {s : State} (h : s.ppu.Sound) (adr : BitVec 14) (d : Byte) :
    (ppuWrite s adr d).ppu.Sound := by
  unfold ppuWrite
  split
  · split
    · exact h
    · exact h
  split
  · split
    · exact { h with nt1 := Memory.ok_write h.nt1 (ntOffset_lt adr) d }
    · exact { h with nt0 := Memory.ok_write h.nt0 (ntOffset_lt adr) d }
  · exact { h with pal := Memory.palOk_write h.pal adr d }

theorem ppuRegWrite_sound {s : State} (h : s.ppu.Sound) (n : BitVec 3) (d : Byte) :
    (ppuRegWrite s n d).ppu.Sound := by
  unfold ppuRegWrite
  split
  · exact { h with }
  split
  · exact { h with }
  split
  · exact h
  split
  · exact { h with }
  split
  · exact oamDataWrite_sound h d
  split
  · exact scrollWrite_sound h d
  split
  · exact addrWrite_sound h d
  · exact { ppuWrite_sound h s.ppu.vramAddr d with }

/-! ### The cartridge -/

/-- What no instruction and no step changes of a cartridge: its header, its mapper's identity, its program
memory, and pattern memory that is ROM (`10` R33, R34; decision D36). -/
structure SameCartridge (c d : Cartridge) : Prop where
  prgBanks  : d.prgBanks = c.prgBanks
  chrBanks  : d.chrBanks = c.chrBanks
  trainer   : d.trainer = c.trainer
  mirroring : d.mirroring = c.mirroring
  mapper    : d.mapper.id = c.mapper.id
  prg       : d.prg = c.prg
  chr       : c.chrBanks ≠ 0 → d.chr = c.chr

theorem SameCartridge.refl (c : Cartridge) : SameCartridge c c :=
  ⟨rfl, rfl, rfl, rfl, rfl, rfl, fun _ => rfl⟩

theorem SameCartridge.trans {c d e : Cartridge} (h : SameCartridge c d) (g : SameCartridge d e) :
    SameCartridge c e :=
  ⟨g.prgBanks.trans h.prgBanks, g.chrBanks.trans h.chrBanks, g.trainer.trans h.trainer,
   g.mirroring.trans h.mirroring, g.mapper.trans h.mapper, g.prg.trans h.prg,
   fun hc => (g.chr (h.chrBanks ▸ hc)).trans (h.chr hc)⟩

/-- Only the mapper's bank differs. -/
theorem SameCartridge.bank {c : Cartridge} {mp : Mapper} (h : mp.id = c.mapper.id) :
    SameCartridge c { c with mapper := mp } :=
  ⟨rfl, rfl, rfl, rfl, h, rfl, fun _ => rfl⟩

/-- Pattern RAM differs. -/
theorem SameCartridge.chrRam {c : Cartridge} (h : c.chrBanks = 0) (m : Memory) :
    SameCartridge c { c with chr := m } :=
  ⟨rfl, rfl, rfl, rfl, rfl, rfl, fun hc => absurd h hc⟩

theorem sameCartridge_cartWrite (c : Cartridge) (adr : Addr) (v : Byte) :
    SameCartridge c (cartWrite c adr v) := by
  unfold cartWrite
  split
  · exact .refl c
  · rename_i hm
    split
    · exact .bank (by rw [hm]; rfl)
    · exact .refl c

theorem sameCartridge_reset (c : Cartridge) : SameCartridge c { c with mapper := c.mapper.reset } :=
  .bank (by cases c.mapper <;> rfl)

/-- The cartridge after a write of the data register: the same, or with a byte of pattern RAM written
(`62` R531, R532). -/
theorem ppuWrite_cart (s : State) (adr : BitVec 14) (d : Byte) :
    (ppuWrite s adr d).cart = s.cart ∨
      (s.cart.chrBanks = 0 ∧ adr.toNat < 8192 ∧
        (ppuWrite s adr d).cart = { s.cart with chr := Memory.write s.cart.chr adr.toNat d }) := by
  unfold ppuWrite
  split
  · rename_i ha
    split
    · rename_i hc
      exact .inr ⟨hc, ha, rfl⟩
    · exact .inl rfl
  split
  · split <;> exact .inl rfl
  · exact .inl rfl

/-- Of the eight registers only the data register reaches the cartridge (`62` R516). -/
theorem ppuRegWrite_cart (s : State) (n : BitVec 3) (d : Byte) :
    (ppuRegWrite s n d).cart = s.cart ∨
      (ppuRegWrite s n d).cart = (ppuWrite s s.ppu.vramAddr d).cart := by
  unfold ppuRegWrite
  iterate 7
    split
    · exact .inl rfl
  exact .inr rfl

/-- What a bus write can do to the cartridge (`61` R461, R464; `62` R531). -/
theorem memWrite_cart (s : State) (adr : Addr) (v : Byte) :
    (memWrite s adr v).cart = s.cart ∨ (memWrite s adr v).cart = cartWrite s.cart adr v ∨
      ∃ k < 8192, s.cart.chrBanks = 0 ∧
        (memWrite s adr v).cart = { s.cart with chr := Memory.write s.cart.chr k v } := by
  unfold memWrite
  split
  · exact .inl rfl
  split
  · rcases ppuRegWrite_cart s (ppuRegOf adr) v with h | h
    · exact .inl h
    · rw [h]
      rcases ppuWrite_cart s s.ppu.vramAddr v with h | ⟨hc, hk, h⟩
      · exact .inl h
      · exact .inr (.inr ⟨_, hk, hc, h⟩)
  split
  · exact .inl rfl
  split
  · exact .inl rfl
  · exact .inr (.inl rfl)

theorem sameCartridge_memWrite (s : State) (adr : Addr) (v : Byte) :
    SameCartridge s.cart (memWrite s adr v).cart := by
  rcases memWrite_cart s adr v with h | h | ⟨k, -, hc, h⟩
  · rw [h]; exact .refl _
  · rw [h]; exact sameCartridge_cartWrite _ _ _
  · rw [h]; exact .chrRam hc _

theorem memWrite_cart_ok {s : State} (h : s.cart.ok) (adr : Addr) (v : Byte) :
    (memWrite s adr v).cart.ok := by
  obtain ⟨hbanks, hprg, hchr⟩ := h
  rcases memWrite_cart s adr v with e | e | ⟨k, hk, hc, e⟩
  · rw [e]; exact ⟨hbanks, hprg, hchr⟩
  · rw [e]
    unfold cartWrite
    split
    · exact ⟨hbanks, hprg, hchr⟩
    split
    · exact ⟨hbanks, hprg, hchr⟩
    · exact ⟨hbanks, hprg, hchr⟩
  · rw [e]
    refine ⟨hbanks, hprg, Memory.ok_write hchr ?_ v⟩
    rw [hc]
    exact hk

/-! ### Bus accesses -/

/-- The invariant without its CPU part, whether or not an NMI request stands. -/
structure State.Sound (s : State) : Prop where
  ram  : Memory.ok 2048 s.ram
  dma  : s.dma.ok
  cart : s.cart.ok
  ppu  : s.ppu.Sound

theorem State.Inv.sound {s : State} (h : s.Inv) : s.Sound := ⟨h.ram, h.dma, h.cart, h.ppu.sound⟩

theorem busEffect_ppu_sound {s : State} (h : s.ppu.Sound) (adr : Addr) :
    (busEffect s adr).ppu.Sound := by
  unfold busEffect
  split
  · exact h
  split
  · exact ppuRegReadEffect_sound h _
  split
  · exact h
  · exact h

theorem busEffect_sound {s : State} (h : s.Sound) (adr : Addr) : (busEffect s adr).Sound where
  ram := by rw [busEffect_ram]; exact h.ram
  dma := by rw [busEffect_dma]; exact h.dma
  cart := by rw [busEffect_cart]; exact h.cart
  ppu := busEffect_ppu_sound h.ppu adr

theorem memWrite_ram_ok {s : State} (h : Memory.ok 2048 s.ram) (adr : Addr) (v : Byte) :
    Memory.ok 2048 (memWrite s adr v).ram := by
  unfold memWrite
  split
  · exact Memory.ok_write h (ramIndex_lt adr) v
  split
  · rw [ppuRegWrite_ram]; exact h
  split
  · exact h
  split
  · exact h
  · exact h

theorem memWrite_dma_ok {s : State} (h : s.dma.ok) (adr : Addr) (v : Byte) :
    (memWrite s adr v).dma.ok := by
  unfold memWrite
  split
  · exact h
  split
  · rw [ppuRegWrite_dma]; exact h
  split
  · exact ⟨fun _ => rfl, fun _ => rfl⟩
  split
  · exact h
  · exact h

theorem memWrite_ppu_sound {s : State} (h : s.ppu.Sound) (adr : Addr) (v : Byte) :
    (memWrite s adr v).ppu.Sound := by
  unfold memWrite
  split
  · exact h
  split
  · exact ppuRegWrite_sound h _ v
  split
  · exact h
  split
  · exact h
  · exact h

theorem memWrite_sound {s : State} (h : s.Sound) (adr : Addr) (v : Byte) : (memWrite s adr v).Sound where
  ram := memWrite_ram_ok h.ram adr v
  dma := memWrite_dma_ok h.dma adr v
  cart := memWrite_cart_ok h.cart adr v
  ppu := memWrite_ppu_sound h.ppu adr v

theorem Accesses.sound {s t : State} (h : Accesses s t) (hs : s.Sound) : t.Sound := by
  induction h with
  | refl => exact hs
  | read adr _ ih => exact busEffect_sound ih adr
  | write adr v _ ih => exact memWrite_sound ih adr v
  | regs a x y sp pc p cycles jammed _ ih => exact ⟨ih.ram, ih.dma, ih.cart, ih.ppu⟩

theorem Accesses.sameCartridge {s t : State} (h : Accesses s t) : SameCartridge s.cart t.cart := by
  induction h with
  | refl => exact .refl _
  | read adr _ ih => rwa [busEffect_cart]
  | write adr v _ ih => exact ih.trans (sameCartridge_memWrite _ adr v)
  | regs a x y sp pc p cycles jammed _ ih => exact ih

/-! ### The clock of the picture processor -/

/-- A property of the state before and after an action holds after the action under a condition. -/
theorem onlyIf_of {P : Ppu → Prop} {b : Bool} {f : Ppu → Ppu} {q : Ppu} (hf : b = true → P (f q))
    (hq : P q) : P (onlyIf b f q) := by
  cases b with
  | true => exact hf rfl
  | false => exact hq

theorem Memory.rowOk_write {m : Memory} (hm : Memory.rowOk m) {col : Nat} (hc : col < 256) {v : Byte}
    (hv : v.toNat < 64) : Memory.rowOk (Memory.write m col v) := by
  refine ⟨Memory.ok_write hm.1 hc v, fun c h => ?_⟩
  rcases Memory.mem_write h with ⟨rfl, -⟩ | h
  · exact hv
  · exact hm.2 c h

theorem Memory.rowOk_nil : Memory.rowOk [] := by decide

theorem frameWrite_rowOk {f : List Memory} (hf : ∀ r ∈ f, Memory.rowOk r) (row : Nat) {col : Nat}
    (hc : col < 256) {v : Byte} (hv : v.toNat < 64) :
    ∀ r ∈ frameWrite f row col v, Memory.rowOk r := by
  intro r hr
  rcases List.mem_or_eq_of_mem_set hr with hr | rfl
  · exact hf r hr
  · refine Memory.rowOk_write ?_ hc hv
    rcases Nat.lt_or_ge row f.length with hrow | hrow
    · rw [List.getD_eq_getElem _ _ hrow]
      exact hf _ (List.getElem_mem hrow)
    · rw [List.getD_eq_default _ _ hrow]
      exact Memory.rowOk_nil

/-- A colour is six bits (`63` R612). -/
theorem toNat_and_colour (v : Byte) : (v &&& 0x3F#8).toNat = v.toNat % 64 := by
  rw [BitVec.toNat_and]
  exact Nat.and_two_pow_sub_one_eq_mod v.toNat 6

theorem drawPixel_sound {c : Cartridge} {p : Ppu} {s : Int} {k : Nat} (hk : 1 ≤ k ∧ k ≤ 256)
    (h : p.Sound) : (drawPixel c s k p).Sound := by
  have hcol : k - 1 < 256 := by omega
  refine { h with frameRows := ?_, frame := frameWrite_rowOk h.frame _ hcol ?_ }
  · exact List.length_set.trans h.frameRows
  · rw [toNat_and_colour]
    exact Nat.mod_lt _ (by decide)

theorem bgStep_sound (c : Cartridge) (k : Nat) {p : Ppu} (h : p.Sound) : (bgStep c k p).Sound := by
  obtain ⟨_, _, _, _, _, _, _, _, _, e⟩ := bgStep_eq c p k
  rw [e]
  exact { h with }

theorem incY_sound {p : Ppu} (h : p.Sound) : (incY p).Sound := by
  obtain ⟨_, e⟩ := incY_eq p
  rw [e]
  exact { h with }

theorem copyX_sound {p : Ppu} (h : p.Sound) : (copyX p).Sound := by
  obtain ⟨_, e⟩ := copyX_eq p
  rw [e]
  exact { h with }

theorem copyY_sound {p : Ppu} (h : p.Sound) : (copyY p).Sound := by
  obtain ⟨_, e⟩ := copyY_eq p
  rw [e]
  exact { h with }

theorem spriteEval_sound (s : Int) {p : Ppu} (h : p.Sound) : (spriteEval s p).Sound :=
  { h with sprCount := spriteEval_length p s, sprOrder := spriteEval_pairwise p s }

theorem clearFlags_sound {p : Ppu} (h : p.Sound) : (clearFlags p).Sound :=
  { h with sprCount := Nat.zero_le 8, sprOrder := .nil }

theorem loadShifters_sound {p : Ppu} (h : p.Sound) : (loadShifters p).Sound := { h with }

theorem vblankStart_sound {p : Ppu} (h : p.Sound) : (vblankStart p).Sound := { h with }

theorem Ppu.Sound.onlyIf {p : Ppu} (h : p.Sound) {b : Bool} {f : Ppu → Ppu}
    (hf : ∀ q : Ppu, q.Sound → (f q).Sound) : (onlyIf b f p).Sound :=
  onlyIf_keeps (P := Ppu.Sound) hf h

theorem renderSteps_sound (c : Cartridge) (s : Int) (k : Nat) {p : Ppu} (h : p.Sound) :
    (renderSteps c s k p).Sound := by
  unfold renderSteps
  exact (((((h.onlyIf fun _ => clearFlags_sound).onlyIf fun _ => bgStep_sound c k).onlyIf
    fun _ => incY_sound).onlyIf fun _ hq => copyX_sound (loadShifters_sound hq)).onlyIf
    fun _ => copyY_sound).onlyIf fun _ => spriteEval_sound s

/-- The position stays on the 341 by 262 grid (`63` R620). -/
theorem advance_sound {p : Ppu} (h : p.Sound) : (advance p).Sound := by
  have hk := h.cycle
  obtain ⟨hlo, hhi⟩ := h.scanline
  dsimp only at hk hlo hhi
  unfold advance Config.ppuCycles
  split
  · refine { h with cycle := ?_, scanline := ?_ }
    · exact Nat.zero_lt_succ _
    · dsimp only
      split <;> omega
  · refine { h with cycle := ?_ }
    dsimp only
    omega

theorem ppuClock_sound (c : Cartridge) {p : Ppu} (h : p.Sound) : (ppuClock c p).Sound := by
  have hrender := h.onlyIf (b := decide (-1 ≤ p.scanline ∧ p.scanline ≤ 239))
    fun _ => renderSteps_sound c p.scanline p.cycle
  have hvblank := hrender.onlyIf (b := decide (p.scanline = 241 ∧ p.cycle = 1)) fun _ => vblankStart_sound
  refine advance_sound (onlyIf_of (fun hvisible => ?_) hvblank)
  exact drawPixel_sound (of_decide_eq_true hvisible).2.2 hvblank

/-! ### The processor slot -/

/-- The cases of the CPU's clock: waiting or Jammed, or an instruction executed (`40` R130, R135). -/
theorem clock_cases {s t : State} (h : clock s = .next t) :
    (∃ n ≤ s.cycles, t = s.setCycles n) ∨
      (s.cycles = 0 ∧ ∃ u, exec (fetch s).1 (fetch s).2 = .next u ∧ t = countDown u) := by
  cases hj : s.jammed with
  | true =>
    rw [clock_jammed s hj] at h
    exact .inl ⟨s.cycles, le_refl _, (Host.Outcome.next.inj h).symm⟩
  | false =>
    by_cases hc : s.cycles = 0
    · rw [clock_executes s hj hc] at h
      obtain ⟨u, hu, ht⟩ := andThen_eq_next h
      exact .inr ⟨hc, u, hu, (Host.Outcome.next.inj ht).symm⟩
    · rw [clock_waits s hj hc] at h
      exact .inl ⟨s.cycles - 1, Nat.sub_le _ _, (Host.Outcome.next.inj h).symm⟩

/-- An instruction makes accesses. -/
theorem exec_accesses {i : Instr} {s t : State} (h : exec i s = .next t) : Accesses s t := by
  cases hj : jams i with
  | true =>
    rw [exec_of_jams hj] at h
    cases h
    exact Accesses.refl.regs _ _ _ _ _ _ _ true
  | false =>
    obtain ⟨u, hu, hfin⟩ := exec_completes i s hj
    cases hu.symm.trans h
    exact hfin.accesses

theorem accesses_countDown (s : State) : Accesses s (countDown s) := by
  unfold countDown
  split
  · exact .refl
  · exact Accesses.refl.regs _ _ _ _ _ _ _ _

/-- The CPU's clock makes accesses. -/
theorem clock_accesses {s t : State} (h : clock s = .next t) : Accesses s t := by
  rcases clock_cases h with ⟨n, -, rfl⟩ | ⟨-, u, hu, rfl⟩
  · exact Accesses.refl.regs _ _ _ _ _ _ n _
  · exact ((fetched_fetch s).accesses.trans (exec_accesses hu)).trans (accesses_countDown u)

theorem countDown_flag (s : State) (f : StatusFlag) : (countDown s).flag f = s.flag f := by
  unfold countDown
  split <;> rfl

theorem countDown_cycles_le (s : State) : (countDown s).cycles ≤ s.cycles := by
  unfold countDown
  split
  · exact le_refl _
  · exact Nat.sub_le _ _

/-- The status and the cycles after an instruction executed on a CPU inside its bounds. -/
theorem exec_cpuOk {i : Instr} {s t : State} (hs : s.cpuOk) (h : exec i s = .next t) : t.cpuOk := by
  obtain ⟨hu, hb, hc⟩ := hs
  cases hj : jams i with
  | true =>
    rw [exec_of_jams hj] at h
    cases h
    exact ⟨hu, hb, hc⟩
  | false =>
    obtain ⟨v, hv, hfin⟩ := exec_completes i s hj
    cases hv.symm.trans h
    exact ⟨hfin.unused, by rw [hfin.brk, hb, ite_self], hfin.cycles.2⟩

theorem clock_cpuOk {s t : State} (hs : s.cpuOk) (h : clock s = .next t) : t.cpuOk := by
  obtain ⟨hu, hb, hc⟩ := hs
  rcases clock_cases h with ⟨n, hn, rfl⟩ | ⟨-, u, hexec, rfl⟩
  · exact ⟨hu, hb, hn.trans hc⟩
  · have hf := fetched_fetch s
    have hfetch : (fetch s).2.cpuOk := by
      unfold State.cpuOk State.flag
      rw [hf.p, hf.cycles]
      exact ⟨hu, hb, hc⟩
    obtain ⟨hu', hb', hc'⟩ := exec_cpuOk hfetch hexec
    exact ⟨(countDown_flag u .u).trans hu', (countDown_flag u .b).trans hb',
      (countDown_cycles_le u).trans hc'⟩

/-! ### OAM-DMA -/

theorem dmaWriteSlot_sound {s : State} (h : s.Sound) (hactive : s.dma.active = true)
    (halign : s.dma.align = false) : (dmaWriteSlot s).Sound := by
  have hppu : (s.setPpu { s.ppu with
      oam := Memory.write s.ppu.oam s.dma.offset.toNat s.dma.data }).ppu.Sound :=
    { h.ppu with oam := Memory.ok_write h.ppu.oam s.dma.offset.isLt _ }
  unfold dmaWriteSlot
  dsimp only
  split
  · rename_i ho
    exact { h with ppu := hppu, dma := ⟨fun _ => rfl, fun _ => ho⟩ }
  · exact { h with
      ppu := hppu
      dma := ⟨fun hoff => absurd (hactive.symm.trans hoff) (by decide),
        fun hon => absurd (halign.symm.trans hon) (by decide)⟩ }

theorem dmaReadSlot_sound {s : State} (h : s.Sound) : (dmaReadSlot s).Sound :=
  { busEffect_sound h (dmaSource s.dma) with dma := (busEffect_sound h (dmaSource s.dma)).dma }

/-- A slot of an active transfer keeps the invariant (`61` R472, R473). -/
theorem dmaStep_sound {s : State} (h : s.Sound) (hactive : s.dma.active = true) (m : Nat) :
    (dmaStep m s).Sound := by
  have haligned : (s.setDma { s.dma with align := false }).Sound :=
    { h with dma := ⟨fun hoff => absurd (hactive.symm.trans hoff) (by decide), nofun⟩ }
  unfold dmaStep
  dsimp only
  split
  · exact haligned
  split
  · exact dmaReadSlot_sound haligned
  · exact dmaWriteSlot_sound haligned hactive rfl

/-- A DMA slot changes the picture processor, the transfer and the count of free values (`61` R472). -/
theorem dmaStep_frame (m : Nat) (s : State) :
    (dmaStep m s).cart = s.cart ∧ (dmaStep m s).p = s.p ∧ (dmaStep m s).cycles = s.cycles := by
  unfold dmaStep dmaReadSlot dmaWriteSlot memRead
  dsimp only
  split
  · exact ⟨rfl, rfl, rfl⟩
  split
  · simp
  split
  · exact ⟨rfl, rfl, rfl⟩
  · exact ⟨rfl, rfl, rfl⟩

/-! ### The body of a tick -/

theorem ppuTick_sound {s : State} (h : s.Sound) : (ppuTick s).Sound :=
  { h with ppu := ppuClock_sound s.cart h.ppu }

/-- What the body of a tick does after the picture processor's clock: nothing, a DMA slot, or the CPU's clock
(`64` R631). -/
theorem tickBody_cases {s t : State} (h : tickBody s = .next t) :
    t = ppuTick s ∨ (s.dma.active = true ∧ t = dmaStep s.master (ppuTick s)) ∨
      clock (ppuTick s) = .next t := by
  rw [tickBody_eq] at h
  split at h
  · cases ha : s.dma.active with
    | true =>
      rw [processorSlot_dma (ppuTick s) _ ha] at h
      exact .inr (.inl ⟨rfl, (Host.Outcome.next.inj h).symm⟩)
    | false =>
      rw [processorSlot_cpu (ppuTick s) _ ha] at h
      exact .inr (.inr h)
  · exact .inl (Host.Outcome.next.inj h).symm

theorem tickBody_sound {s t : State} (hs : s.Sound) (h : tickBody s = .next t) : t.Sound := by
  rcases tickBody_cases h with rfl | ⟨hactive, rfl⟩ | hclock
  · exact ppuTick_sound hs
  · exact dmaStep_sound (ppuTick_sound hs) hactive s.master
  · exact (clock_accesses hclock).sound (ppuTick_sound hs)

theorem tickBody_cpuOk {s t : State} (hs : s.cpuOk) (h : tickBody s = .next t) : t.cpuOk := by
  rcases tickBody_cases h with rfl | ⟨-, rfl⟩ | hclock
  · exact hs
  · obtain ⟨-, hp, hc⟩ := dmaStep_frame s.master (ppuTick s)
    unfold State.cpuOk State.flag
    rw [hp, hc]
    exact hs
  · exact clock_cpuOk (s := ppuTick s) hs hclock

theorem tickBody_sameCartridge {s t : State} (h : tickBody s = .next t) : SameCartridge s.cart t.cart := by
  rcases tickBody_cases h with rfl | ⟨-, rfl⟩ | hclock
  · exact .refl _
  · rw [(dmaStep_frame s.master (ppuTick s)).1]
    exact .refl _
  · exact (clock_accesses hclock).sameCartridge

/-! ### The end of a tick -/

/-- `nmi()` and an unmasked `irq()`, whole: three pushes, the status, the vector, the cycles (`60` R410 to
R414). -/
theorem takeInterrupt_eq (s : State) {vec : Addr} (h : 0x4020#16 ≤ vec) (h1 : 0x4020#16 ≤ vec + 1)
    (n : Nat) :
    takeInterrupt vec n s =
      { s with
        ram := Memory.write (Memory.write (Memory.write s.ram (256 + s.sp.toNat) (hiByte s.pc))
          (256 + (s.sp - 1).toNat) (loByte s.pc)) (256 + (s.sp - 2).toNat) (pushedByInterrupt s.p),
        sp := s.sp - 3, p := setFlag (pushedByInterrupt s.p) .i true,
        pc := wordOf (cartRead s.cart (vec + 1)) (cartRead s.cart vec), cycles := n } := by
  unfold takeInterrupt
  dsimp only
  rw [enterHandler_eq _ _ _ h h1]
  rfl

/-- A push lands inside internal RAM (`10` R21). -/
theorem ram_ok_push {m : Memory} (h : Memory.ok 2048 m) (sp v : Byte) :
    Memory.ok 2048 (Memory.write m (256 + sp.toNat) v) :=
  Memory.ok_write h (by have := sp.isLt; omega) v

/-- A delivered interrupt reestablishes the invariant, whatever the status and the cycles were. -/
theorem deliver_takeInterrupt_inv {s : State} (hs : s.Sound) (hn : s.ppu.nmiRequest = false) {vec : Addr}
    (h : 0x4020#16 ≤ vec) (h1 : 0x4020#16 ≤ vec + 1) {n : Nat} (hcycles : n ≤ 8) :
    (deliver (takeInterrupt vec n) s).Inv := by
  unfold deliver
  rw [takeInterrupt_eq s h h1]
  exact {
    cpu := ⟨by simp [State.flag, getFlag_setFlag, getFlag_pushedByInterrupt],
      by simp [State.flag, getFlag_setFlag, getFlag_pushedByInterrupt], hcycles⟩
    ram := ram_ok_push (ram_ok_push (ram_ok_push hs.ram _ _) _ _) _ _
    dma := hs.dma
    cart := hs.cart
    ppu := hs.ppu.ok hn }

theorem deliver_nmi_inv {s : State} (hs : s.Sound) (hn : s.ppu.nmiRequest = false) :
    (deliver nmi s).Inv :=
  deliver_takeInterrupt_inv hs hn (by decide) (by decide) (by decide)

theorem deliver_irq_inv {s : State} (hs : s.Sound) (hn : s.ppu.nmiRequest = false)
    (hi : s.flag .i = false) : (deliver irq s).Inv := by
  have hirq : deliver irq s = deliver (takeInterrupt Config.irqVector Config.irqCycles) s := by
    unfold deliver irq
    rw [hi]
    rfl
  rw [hirq]
  exact deliver_takeInterrupt_inv hs hn (by decide) (by decide) (by decide)

/-- `SystemReset()`, whole: the registers at their reset values, the vector in `PC`, the memories as they were
(`64` R640, `70` R661). -/
theorem systemReset_eq (s : State) :
    ∃ pc, systemReset s =
      { s with
        a := 0, x := 0, y := 0, sp := Config.spReset, pc := pc, p := 0x20, cycles := Config.resetCycles,
        jammed := false, dma := Dma.reset, master := 0,
        cart := { s.cart with mapper := s.cart.mapper.reset }, ppu := ppuReset s.ppu } := by
  unfold systemReset cpuReset
  rw [readVector_eq _ _ (by decide) (by decide)]
  exact ⟨_, rfl⟩

theorem Ppu.reset_ok : Ppu.reset.Ok where
  cycle := by decide
  scanline := by decide
  fineX := by decide
  sprCount := by decide
  sprOrder := .nil
  nmiRequest := rfl
  oam := by decide
  nt0 := by decide
  nt1 := by decide
  pal := by decide
  frameRows := List.length_replicate
  frame := fun r hr => by
    rw [List.eq_of_mem_replicate hr]
    exact Memory.rowOk_nil

theorem ppuReset_ok {p : Ppu} (h : p.Sound) : (ppuReset p).Ok :=
  { Ppu.reset_ok with
    oam := h.oam, nt0 := h.nt0, nt1 := h.nt1, pal := h.pal, frameRows := h.frameRows, frame := h.frame }

theorem systemReset_inv {s : State} (h : s.Sound) : (systemReset s).Inv := by
  obtain ⟨pc, e⟩ := systemReset_eq s
  rw [e]
  exact {
    cpu := ⟨(by decide : getFlag 0x20#8 .u = true), (by decide : getFlag 0x20#8 .b = false), le_refl 8⟩
    ram := h.ram
    dma := ⟨fun _ => rfl, fun _ => rfl⟩
    cart := h.cart
    ppu := ppuReset_ok h.ppu }

/-- The end of a tick restores the whole invariant: no NMI request is left over (`64` R636). -/
theorem tickEnd_inv {s t : State} (hs : s.Sound) (hcpu : s.cpuOk) (h : tickEnd s = .next t) : t.Inv := by
  have hsound : ((s.setMaster (s.master + 1)).setRequests s.requests.tail).Sound :=
    ⟨hs.ram, hs.dma, hs.cart, hs.ppu⟩
  rcases tickEnd_cases s h with rfl | ⟨-, rfl⟩ | ⟨hn, hi, rfl⟩ | ⟨hn, rfl⟩
  · exact systemReset_inv hsound
  · exact deliver_nmi_inv ⟨hs.ram, hs.dma, hs.cart, hs.ppu⟩ rfl
  · exact deliver_irq_inv hsound hn hi
  · exact ⟨hcpu, hs.ram, hs.dma, hs.cart, hs.ppu.ok hn⟩

theorem irq_cart (s : State) : (irq s).cart = s.cart := by
  unfold irq
  split
  · rfl
  · rw [takeInterrupt_eq s (by decide) (by decide)]

theorem nmi_cart (s : State) : (nmi s).cart = s.cart := by
  unfold nmi
  rw [takeInterrupt_eq s (by decide) (by decide)]

theorem tickEnd_sameCartridge {s t : State} (h : tickEnd s = .next t) : SameCartridge s.cart t.cart := by
  rcases tickEnd_cases s h with rfl | ⟨-, rfl⟩ | ⟨-, -, rfl⟩ | ⟨-, rfl⟩
  · obtain ⟨pc, e⟩ := systemReset_eq ((s.setMaster (s.master + 1)).setRequests s.requests.tail)
    rw [e]
    exact sameCartridge_reset s.cart
  · rw [deliver, State.setJammed_cart, nmi_cart]
    exact .refl _
  · rw [deliver, State.setJammed_cart, irq_cart]
    exact .refl _
  · exact .refl _

/-! ### The obligations -/

/-- Settles O58: the body of a tick keeps the invariant but for a standing NMI request, its end drops that. -/
theorem stepKeepsTheInvariant : Obligations.StepKeepsTheInvariant := by
  intro s t hs h
  obtain ⟨u, hbody, hend⟩ := step_eq_next s h
  exact tickEnd_inv (tickBody_sound hs.sound hbody) (tickBody_cpuOk hs.cpu hbody) hend

/-- Settles O57: `State.reset` is what a system reset leaves of the launch state, whose memories are empty. -/
theorem resetHasTheInvariant : Obligations.ResetHasTheInvariant := by
  unfold Obligations.ResetHasTheInvariant
  rw [State.reset_eq_systemReset]
  exact systemReset_inv ⟨by decide, by decide, by decide, Ppu.reset_ok.sound⟩

/-- Settles O41: neither half of a tick changes more of the cartridge than its bank and its pattern RAM. -/
theorem cartridgeIsImmutable : Obligations.CartridgeIsImmutable := by
  intro s t h
  obtain ⟨u, hbody, hend⟩ := step_eq_next s h
  have hsame := (tickBody_sameCartridge hbody).trans (tickEnd_sameCartridge hend)
  exact ⟨hsame.prgBanks, hsame.chrBanks, hsame.trainer, hsame.mirroring, hsame.mapper, hsame.prg,
    hsame.chr⟩

end Sys2Proof.Machine

/-! ## The frame buffer -/

namespace Sys2Proof.Machine

open Rule

variable (c : Cartridge) (p : Ppu)

/-- An entry after a write of the frame buffer: the entry written, or an older one (`10` R53). -/
theorem frameRead_frameWrite {f : List Memory} {row : Nat} (hrow : row < f.length) (col : Nat) (v : Byte)
    (row' col' : Nat) :
    frameRead (frameWrite f row col v) row' col' =
      if row = row' ∧ col = col' then v else frameRead f row' col' := by
  unfold frameRead frameWrite
  by_cases hr : row = row'
  · subst hr
    have hset : (f.set row (Memory.write (f.getD row []) col v)).getD row [] =
        Memory.write (f.getD row []) col v := by
      simp [List.getD_eq_getElem?_getD, hrow]
    rw [hset, Memory.read_write]
    simp
  · rw [if_neg (fun h => hr h.1)]
    simp [List.getD_eq_getElem?_getD, List.getElem?_set_ne hr]

/-! ### What the clock does to the frame buffer -/

theorem bgStep_frame (k : Nat) : (bgStep c k p).frame = p.frame := by
  obtain ⟨_, _, _, _, _, _, _, _, _, e⟩ := bgStep_eq c p k
  rw [e]

theorem incY_frame : (incY p).frame = p.frame := by obtain ⟨_, e⟩ := incY_eq p; rw [e]
theorem copyX_frame : (copyX p).frame = p.frame := by obtain ⟨_, e⟩ := copyX_eq p; rw [e]
theorem copyY_frame : (copyY p).frame = p.frame := by obtain ⟨_, e⟩ := copyY_eq p; rw [e]
theorem advance_frame : (advance p).frame = p.frame := by obtain ⟨_, _, e⟩ := advance_eq p; rw [e]

theorem onlyIf_frame {b : Bool} {f : Ppu → Ppu} (hf : ∀ q, (f q).frame = q.frame) :
    (onlyIf b f p).frame = p.frame :=
  onlyIf_keeps (P := fun q => q.frame = p.frame) (fun q hq => (hf q).trans hq) rfl

theorem renderSteps_frame (s : Int) (k : Nat) : (renderSteps c s k p).frame = p.frame := by
  unfold renderSteps
  dsimp only
  rw [onlyIf_frame (f := spriteEval s) _ (fun _ => rfl), onlyIf_frame _ copyY_frame,
    onlyIf_frame _ (fun q => copyX_frame (loadShifters q)), onlyIf_frame _ incY_frame,
    onlyIf_frame _ (fun q => bgStep_frame c q k), onlyIf_frame (f := clearFlags) _ (fun _ => rfl)]

/-- The steps of the clock before its pixel (`63` R561). -/
def beforePixel (c : Cartridge) (p : Ppu) : Ppu :=
  onlyIf (decide (p.scanline = 241 ∧ p.cycle = 1)) vblankStart
    (onlyIf (decide (-1 ≤ p.scanline ∧ p.scanline ≤ 239)) (renderSteps c p.scanline p.cycle) p)

theorem beforePixel_frame : (beforePixel c p).frame = p.frame := by
  unfold beforePixel
  rw [onlyIf_frame (f := vblankStart) _ (fun _ => rfl), onlyIf_frame _ (fun q => renderSteps_frame c q _ _)]

/-- A clock off the visible positions writes no pixel. -/
theorem ppuClock_frame_of_not_visible (h : ¬ visible p) : (ppuClock c p).frame = p.frame := by
  have hclock : ppuClock c p = advance (beforePixel c p) := by
    unfold ppuClock
    dsimp only
    rw [decide_eq_false (p := 0 ≤ p.scanline ∧ p.scanline ≤ 239 ∧ 1 ≤ p.cycle ∧ p.cycle ≤ 256) h]
    rfl
  rw [hclock, advance_frame, beforePixel_frame]

/-- A clock at a visible position draws. -/
theorem ppuClock_frame_of_visible (h : visible p) :
    (ppuClock c p).frame = (drawPixel c p.scanline p.cycle (beforePixel c p)).frame := by
  have hclock : ppuClock c p = advance (drawPixel c p.scanline p.cycle (beforePixel c p)) := by
    unfold ppuClock
    dsimp only
    rw [decide_eq_true (p := 0 ≤ p.scanline ∧ p.scanline ≤ 239 ∧ 1 ≤ p.cycle ∧ p.cycle ≤ 256) h]
    rfl
  rw [hclock, advance_frame]

/-- At a visible position the steps before the pixel are the background step, and IncY on cycle 256 (`63`
R561). -/
theorem beforePixel_of_visible (h : visible p) :
    beforePixel c p = onlyIf (decide (p.cycle = 256)) incY (atPixel c p) := by
  obtain ⟨hs0, hs1, hk0, hk1⟩ := h
  have hbg : decide (2 ≤ p.cycle ∧ p.cycle ≤ 257 ∨ 321 ≤ p.cycle ∧ p.cycle ≤ 337) =
      decide (2 ≤ p.cycle) := by
    rw [decide_eq_decide]; omega
  unfold beforePixel renderSteps
  rw [decide_eq_true (p := -1 ≤ p.scanline ∧ p.scanline ≤ 239) ⟨by omega, hs1⟩,
    decide_eq_false (p := p.scanline = 241 ∧ p.cycle = 1) (by omega),
    decide_eq_false (p := p.scanline = -1 ∧ p.cycle = 1) (by omega),
    decide_eq_false (p := p.cycle = 257) (by omega),
    decide_eq_false (p := p.scanline = -1 ∧ 280 ≤ p.cycle ∧ p.cycle ≤ 304) (by omega),
    decide_eq_false (p := 0 ≤ p.scanline ∧ p.cycle = 257) (by omega), hbg]
  simp only [onlyIf_true, onlyIf_false]
  congr 1
  unfold onlyIf atPixel
  simp only [decide_eq_true_eq]

/-! ### What a pixel depends on -/

variable {c p} {q : Ppu}

theorem ppuRead_congr (h : SameRegisters p q) (adr : BitVec 14) : ppuRead c q adr = ppuRead c p adr := by
  unfold ppuRead
  rw [h.nt0, h.nt1, h.pal]

theorem spritePixelOf_congr (h : SameRegisters p q) (s : Int) (col : Nat) :
    spritePixelOf c q s col = spritePixelOf c p s col := by
  funext i
  have hbyte : ∀ j, oamByte q i j = oamByte p i j := fun j => by unfold oamByte; rw [h.oam]
  have hheight : spriteHeight q = spriteHeight p := by unfold spriteHeight Ppu.spr16; rw [h.ctrl]
  have haddr : ∀ tile attr row, spritePatternAddr q tile attr row = spritePatternAddr p tile attr row := by
    intro tile attr row
    unfold spritePatternAddr Ppu.spr16 Ppu.sprHalf
    rw [hheight, h.ctrl]
  unfold spritePixelOf
  simp only [hbyte, hheight, haddr, ppuRead_congr h]

theorem spritePixel_congr (h : SameRegisters p q) (hl : q.sprList = p.sprList) (s : Int) (col : Nat) :
    spritePixel c q s col = spritePixel c p s col := by
  unfold spritePixel Ppu.sprEn
  rw [h.mask, hl, spritePixelOf_congr h]

variable (c p)

theorem sameRegisters_atPixel : SameRegisters p (atPixel c p) := by
  unfold atPixel
  split
  · exact sameRegisters_bgStep c p _
  · exact .rfl' p

theorem atPixel_sprList : (atPixel c p).sprList = p.sprList := by
  unfold atPixel
  split
  · obtain ⟨_, _, _, _, _, _, _, _, _, e⟩ := bgStep_eq c p p.cycle
    rw [e]
  · rfl

/-- The colour a clock at a visible position writes (`63` R605 to R612). -/
def shownColour (c : Cartridge) (p : Ppu) : Byte :=
  ppuRead c p (pixelAddr (muxPixel (bgPixel (atPixel c p))
    (spritePixel c p p.scanline (p.cycle - 1)))) &&& 0x3F#8

/-- The pixel of a visible clock: the multiplexer's colour at the clock's own position, on the registers
after its fetch step. -/
theorem ppuClock_frame_eq (h : visible p) :
    (ppuClock c p).frame = frameWrite p.frame p.scanline.toNat (p.cycle - 1) (shownColour c p) := by
  have hincY : ∃ u, beforePixel c p = { atPixel c p with v := u } := by
    rw [beforePixel_of_visible c p h]
    unfold onlyIf
    split
    · exact incY_eq _
    · exact ⟨_, rfl⟩
  obtain ⟨u, hu⟩ := hincY
  have hbg : bgPixel (beforePixel c p) = bgPixel (atPixel c p) := by rw [hu]; rfl
  have hsame : SameRegisters p (beforePixel c p) := by
    rw [hu]
    exact (sameRegisters_atPixel c p).trans' (sameRegisters_v _ u)
  have hlist : (beforePixel c p).sprList = p.sprList := by
    rw [hu]
    exact atPixel_sprList c p
  rw [ppuClock_frame_of_visible c p h]
  unfold drawPixel shownColour
  dsimp only
  rw [beforePixel_frame, hbg, spritePixel_congr hsame hlist, ppuRead_congr hsame]

/-- With rendering off the colour is the backdrop's (`63` R611, R612). -/
theorem shownColour_rendering_off (h : p.mask.toNat / 8 % 4 = 0) :
    shownColour c p = Memory.read p.pal 0 &&& 0x3F#8 := by
  have hbgEn : p.mask.getLsbD 3 = false := by rw [getLsbD_eq_div, decide_eq_false_iff_not]; omega
  have hsprEn : p.mask.getLsbD 4 = false := by rw [getLsbD_eq_div, decide_eq_false_iff_not]; omega
  have hbg : bgPixel (atPixel c p) = Pixel.clear := by
    unfold bgPixel Ppu.bgEn
    rw [(sameRegisters_atPixel c p).mask, hbgEn]
    rfl
  have hspr : spritePixel c p p.scanline (p.cycle - 1) = SpritePixel.clear := by
    unfold spritePixel Ppu.sprEn
    rw [hsprEn]
    rfl
  unfold shownColour
  rw [hbg, hspr]
  rfl

/-- Settles O53: the frame buffer after a clock is the old one with at most one entry written. -/
theorem onePixelPerVisibleClock : Obligations.OnePixelPerVisibleClock := by
  intro c p hlen
  refine ⟨ppuClock_frame_of_not_visible c p, fun h => ?_⟩
  have hrow : p.scanline.toNat < p.frame.length := by
    obtain ⟨hs0, hs1, -, -⟩ := h
    omega
  have hread := frameRead_frameWrite hrow (p.cycle - 1) (shownColour c p)
  have hcolour : frameRead (ppuClock c p).frame p.scanline.toNat (p.cycle - 1) = shownColour c p := by
    rw [ppuClock_frame_eq c p h, hread, if_pos ⟨rfl, rfl⟩]
  refine ⟨fun row col hne => ?_, ?_, ?_, fun hoff => ?_⟩
  · rw [ppuClock_frame_eq c p h, hread, if_neg (fun e => hne ⟨e.1.symm, e.2.symm⟩)]
  · rw [hcolour, shownColour, toNat_and_colour]
    exact Nat.mod_lt _ (by decide)
  · rw [hcolour, shownColour, toNat_and_colour]
  · rw [hcolour, shownColour_rendering_off c p hoff, toNat_and_colour]

end Sys2Proof.Machine

/-! ## Loading a cartridge -/

namespace Sys2Proof.Machine

/-- A memory made of a sequence of bytes reads as the sequence, and as 0 before and after it. -/
theorem Memory.read_ofBytesFrom (bs : List Byte) (i k : Nat) :
    Memory.read (Memory.ofBytesFrom i bs) k = if i ≤ k then bs.getD (k - i) 0#8 else 0#8 := by
  induction bs generalizing i k with
  | nil => simp [Memory.ofBytesFrom, Memory.read, Memory.unlisted]
  | cons v bs ih =>
    rw [Memory.ofBytesFrom, Memory.read_cell_append]
    · rcases Nat.lt_trichotomy i k with h | h | h
      · obtain ⟨j, rfl⟩ := Nat.exists_eq_add_of_lt h
        rw [ih, if_neg (by omega), if_pos (by omega), if_pos (by omega), show i + j + 1 - (i + 1) = j by omega,
          show i + j + 1 - i = j + 1 by omega, List.getD_cons_succ]
      · subst h
        simp
      · rw [ih, if_neg (by omega), if_neg (by omega), if_neg (by omega)]
    · intro hv
      rw [ih, if_neg (by omega), hv, Memory.unlisted]

/-- A memory made of a section of a file reads as the file from there on. -/
theorem Memory.read_ofBytes_section (f : List Byte) (o n : Nat) {k : Nat} (hk : k < n) :
    Memory.read (Memory.ofBytes ((f.drop o).take n)) k = f.getD (o + k) 0#8 := by
  rw [Memory.ofBytes, Memory.read_ofBytesFrom, if_pos (Nat.zero_le k), Nat.sub_zero]
  simp [List.getD_eq_getElem?_getD, List.getElem?_take_of_lt hk]

/-! ### The header as numbers -/

variable (f : List Byte)

theorem romMapperId_eq :
    romMapperId f = (f.getD 7 0#8).toNat / 16 * 16 + (f.getD 6 0#8).toNat / 16 := by
  have h6 := (f.getD 6 0#8).isLt
  have h7 := (f.getD 7 0#8).isLt
  unfold romMapperId romByte
  rw [BitVec.toNat_append, ← Nat.shiftLeft_add_eq_or_of_lt (BitVec.isLt _), Nat.shiftLeft_eq,
    BitVec.extractLsb'_toNat, BitVec.extractLsb'_toNat, Nat.shiftRight_eq_div_pow,
    Nat.shiftRight_eq_div_pow]
  omega

theorem romTrainer_eq : romTrainer f = decide ((f.getD 6 0#8).toNat / 4 % 2 = 1) :=
  getLsbD_eq_div _ 2

theorem romPrgOffset_eq :
    romPrgOffset f = 16 + if (f.getD 6 0#8).toNat / 4 % 2 = 1 then 512 else 0 := by
  unfold romPrgOffset
  rw [romTrainer_eq]
  simp only [decide_eq_true_eq]

theorem romMirroring_eq :
    romMirroring f = if (f.getD 6 0#8).toNat % 2 = 1 then .vertical else .horizontal := by
  unfold romMirroring romByte
  rw [getLsbD_eq_div]
  simp

theorem mapperOfId_eq_none {id : Nat} : mapperOfId id = none ↔ id ≠ 0 ∧ id ≠ 2 := by
  unfold mapperOfId Config.mapperIdFixed Config.mapperIdSwitchable
  split
  · simp_all
  split <;> simp_all

theorem id_of_mapperOfId {id : Nat} {mp : Mapper} (h : mapperOfId id = some mp) : mp.id = id := by
  unfold mapperOfId at h
  split at h
  · cases h; exact Eq.symm ‹_›
  split at h
  · cases h; exact Eq.symm ‹_›
  · cases h

theorem romMapperOk_iff : romMapperOk f = true ↔ mapperOfId (romMapperId f) ≠ none := by
  rw [Ne, mapperOfId_eq_none, romMapperId_eq]
  unfold romMapperOk
  simp only [Bool.or_eq_true, beq_iff_eq]
  omega

theorem romSignatureOk_iff : romSignatureOk f = true ↔ f.take 4 = romSignature := beq_iff_eq

theorem romProgramOk_iff : romProgramOk f = true ↔ romPrgBanks f ≠ 0 := by
  unfold romProgramOk romPrgBanks romByte
  rw [decide_eq_true_iff]
  omega

theorem romLengthOk_iff : romLengthOk f = true ↔ romLength f ≤ f.length := decide_eq_true_iff

/-! ### The outcomes of a load -/

/-- The cartridge of a file with a given mapper (`61` R450). -/
def romCartridge (mp : Mapper) (chrRam : Memory) (f : List Byte) : Cartridge where
  prgBanks := romPrgBanks f
  chrBanks := romChrBanks f
  trainer := romTrainer f
  mirroring := romMirroring f
  mapper := mp
  prg := Memory.ofBytes ((f.drop (romPrgOffset f)).take (romPrgBanks f * Config.prgBankBytes))
  chr :=
    if romChrBanks f = 0 then chrRam
    else Memory.ofBytes ((f.drop (romChrOffset f)).take (romChrBanks f * Config.chrBankBytes))

variable {f} (chrRam : Memory)

theorem loadCartridge_of_not_signature (h : romSignatureOk f = false) :
    loadCartridge chrRam f = .fault .badSignature := by
  have hsig : f.take 4 ≠ romSignature := fun e => by simp [(romSignatureOk_iff f).mpr e] at h
  unfold loadCartridge
  rw [if_pos hsig]

theorem loadCartridge_of_not_mapper (hsig : romSignatureOk f = true) (h : romMapperOk f = false) :
    loadCartridge chrRam f = .fault .unknownMapper := by
  have hnone : mapperOfId (romMapperId f) = none := by
    by_contra hne
    simp [(romMapperOk_iff f).mpr hne] at h
  unfold loadCartridge
  rw [if_neg (not_not_intro ((romSignatureOk_iff f).mp hsig)), hnone]

/-- With a signature and a known mapper the banks and the length decide (log 15). -/
theorem loadCartridge_of_header (hsig : romSignatureOk f = true) (hmap : romMapperOk f = true) :
    ∃ mp : Mapper, mp.id = romMapperId f ∧ loadCartridge chrRam f =
      if romPrgBanks f = 0 then .refused .noProgramBank
      else if f.length < romLength f then .refused .shortFile
      else .next (romCartridge mp chrRam f) := by
  obtain ⟨mp, hmp⟩ := Option.ne_none_iff_exists'.mp ((romMapperOk_iff f).mp hmap)
  refine ⟨mp, id_of_mapperOfId hmp, ?_⟩
  unfold loadCartridge
  rw [if_neg (not_not_intro ((romSignatureOk_iff f).mp hsig)), hmp]
  rfl

/-- A load that answers a cartridge: the file was well-formed and the cartridge is the file's. -/
theorem loadCartridge_eq_next {c : Cartridge} (h : loadCartridge chrRam f = .next c) :
    romWellFormed f = true ∧ ∃ mp : Mapper, mp.id = romMapperId f ∧ c = romCartridge mp chrRam f := by
  cases hsig : romSignatureOk f with
  | false => rw [loadCartridge_of_not_signature chrRam hsig] at h; cases h
  | true =>
  cases hmap : romMapperOk f with
  | false => rw [loadCartridge_of_not_mapper chrRam hsig hmap] at h; cases h
  | true =>
  obtain ⟨mp, hid, e⟩ := loadCartridge_of_header chrRam hsig hmap
  rw [e] at h
  split at h
  · cases h
  split at h
  · cases h
  · rename_i hbanks hlength
    have hprg := (romProgramOk_iff f).mpr hbanks
    have hlen := (romLengthOk_iff f).mpr (Nat.le_of_not_lt hlength)
    exact ⟨by simp [romWellFormed, hsig, hmap, hprg, hlen], mp, hid, (Host.Outcome.next.inj h).symm⟩

theorem loadCartridge_of_wellFormed (h : romWellFormed f = true) :
    ∃ c, loadCartridge chrRam f = .next c := by
  simp only [romWellFormed, Bool.and_eq_true] at h
  obtain ⟨⟨⟨hsig, hmap⟩, hprg⟩, hlen⟩ := h
  obtain ⟨mp, -, e⟩ := loadCartridge_of_header chrRam hsig hmap
  rw [if_neg ((romProgramOk_iff f).mp hprg), if_neg (Nat.not_lt.mpr ((romLengthOk_iff f).mp hlen))] at e
  exact ⟨_, e⟩

/-- Settles O42: the outcomes of a load by what its header announces, and the cartridge built field by field. -/
theorem loadReadsTheHeader : Obligations.LoadReadsTheHeader := by
  intro f chrRam trainer o prg chr
  have hprg : prg = romPrgBanks f * Config.prgBankBytes := rfl
  have hchr : chr = romChrBanks f * Config.chrBankBytes := rfl
  have ho : romPrgOffset f = o := romPrgOffset_eq f
  have hlength : romLength f = o + prg + chr := by
    rw [romLength, romChrOffset, ho, hprg, hchr]
  have hbanks : romPrgBanks f = 0 ↔ prg = 0 := by
    rw [hprg, Config.prgBankBytes]
    omega
  refine ⟨loadCartridge_of_not_signature chrRam, loadCartridge_of_not_mapper chrRam,
    fun hsig hmap => ?_, ⟨loadCartridge_of_wellFormed chrRam, fun ⟨c, h⟩ =>
      (loadCartridge_eq_next chrRam h).1⟩, fun c h => ?_⟩
  · obtain ⟨mp, -, e⟩ := loadCartridge_of_header chrRam hsig hmap
    rw [e, hlength]
    simp only [hbanks]
    exact ⟨fun h0 => if_pos h0, fun h0 hshort => by rw [if_neg h0, if_pos hshort],
      fun h0 hlong => ⟨_, by rw [if_neg h0, if_neg (Nat.not_lt.mpr hlong)]⟩⟩
  · obtain ⟨-, mp, hid, rfl⟩ := loadCartridge_eq_next chrRam h
    refine ⟨rfl, rfl, romTrainer_eq f, romMirroring_eq f, ?_, fun k hk => ?_, fun hne k hk => ?_,
      fun hzero => if_pos hzero⟩
    · rw [show (romCartridge mp chrRam f).mapper = mp from rfl, hid, romMapperId_eq, Nat.add_comm]
    · rw [← ho]
      exact Memory.read_ofBytes_section f _ _ hk
    · have hchrData : (romCartridge mp chrRam f).chr =
          Memory.ofBytes ((f.drop (romChrOffset f)).take (romChrBanks f * Config.chrBankBytes)) := if_neg hne
      rw [hchrData, ← ho]
      exact Memory.read_ofBytes_section f _ _ hk

end Sys2Proof.Machine

/-! ## The bus by address

The windows of the CPU bus with their bounds as numbers (`20` R62, R63), and in each what an access is. -/

namespace Sys2Proof.Machine

variable (s : State) {adr : Addr} (v : Byte)

theorem isCollab_eq (adr : Addr) :
    isCollab adr = decide (0x4000 ≤ adr.toNat ∧ adr.toNat ≤ 0x4017 ∧ adr.toNat ≠ 0x4014) := by
  unfold isCollab
  simp only [BitVec.le_def, ne_eq, ← BitVec.toNat_inj, BitVec.toNat_ofNat, Nat.reducePow, Nat.reduceMod]

/-- The byte a bus read returns, window by window. -/
theorem busValue_eq (adr : Addr) :
    busValue s adr =
      if adr.toNat < 0x2000 then Memory.read s.ram (adr.toNat % 2048)
      else if adr.toNat < 0x4000 then ppuRegValue s (ppuRegOf adr)
      else if isCollab adr then Config.collabRead s.draws adr
      else if adr.toNat < 0x4020 then 0#8
      else cartRead s.cart adr := by
  unfold busValue
  rw [ramIndex_eq_mod]
  simp only [BitVec.lt_def, BitVec.toNat_ofNat, Nat.reducePow, Nat.reduceMod]

/-- What a bus read does, window by window. -/
theorem busEffect_eq (adr : Addr) :
    busEffect s adr =
      if adr.toNat < 0x2000 then s
      else if adr.toNat < 0x4000 then ppuRegReadEffect s (ppuRegOf adr)
      else if isCollab adr then s.setDraws (s.draws + 1)
      else s := by
  unfold busEffect
  simp only [BitVec.lt_def, BitVec.toNat_ofNat, Nat.reducePow, Nat.reduceMod]

/-- What a bus write does, window by window. -/
theorem memWrite_eq (adr : Addr) :
    memWrite s adr v =
      if adr.toNat < 0x2000 then s.setRam (Memory.write s.ram (adr.toNat % 2048) v)
      else if adr.toNat < 0x4000 then ppuRegWrite s (ppuRegOf adr) v
      else if adr.toNat = 0x4014 then s.setDma (dmaRequest v s.dma)
      else if adr.toNat < 0x4020 then s
      else s.setCart (cartWrite s.cart adr v) := by
  unfold memWrite
  rw [ramIndex_eq_mod]
  simp only [BitVec.lt_def, ← BitVec.toNat_inj, BitVec.toNat_ofNat, Nat.reducePow, Nat.reduceMod]

/-! ### The register window -/

theorem ppuRegOf_eq_iff (adr : Addr) (n : BitVec 3) : ppuRegOf adr = n ↔ adr.toNat % 8 = n.toNat := by
  rw [← BitVec.toNat_inj, ppuRegOf, BitVec.extractLsb'_toNat, Nat.shiftRight_zero]

theorem busValue_of_ppu (hlo : 0x2000 ≤ adr.toNat) (hhi : adr.toNat < 0x4000) :
    busValue s adr = ppuRegValue s (ppuRegOf adr) := by
  rw [busValue_eq, if_neg (Nat.not_lt.mpr hlo), if_pos hhi]

theorem busEffect_of_ppu (hlo : 0x2000 ≤ adr.toNat) (hhi : adr.toNat < 0x4000) :
    busEffect s adr = ppuRegReadEffect s (ppuRegOf adr) := by
  rw [busEffect_eq, if_neg (Nat.not_lt.mpr hlo), if_pos hhi]

theorem memWrite_of_ppu (hlo : 0x2000 ≤ adr.toNat) (hhi : adr.toNat < 0x4000) :
    memWrite s adr v = ppuRegWrite s (ppuRegOf adr) v := by
  rw [memWrite_eq, if_neg (Nat.not_lt.mpr hlo), if_pos hhi]

/-! ### Between the register window and the cartridge -/

/-- 0x4014 and the test region answer 0 (`20` R68, `61` R448). -/
theorem busValue_of_silent (h : adr.toNat = 0x4014 ∨ 0x4018 ≤ adr.toNat) (hhi : adr.toNat < 0x4020) :
    busValue s adr = 0#8 := by
  have hcollab : isCollab adr = false := by
    rw [isCollab_eq, decide_eq_false_iff_not]; omega
  rw [busValue_eq, if_neg (by omega), if_neg (by omega), hcollab, if_neg (by decide), if_pos hhi]

/-- Reads of 0x4014, of the test region and of cartridge space have no effect (`20` R77). -/
theorem busEffect_of_silent (h : adr.toNat = 0x4014 ∨ 0x4018 ≤ adr.toNat) : busEffect s adr = s := by
  have hcollab : isCollab adr = false := by
    rw [isCollab_eq, decide_eq_false_iff_not]; omega
  rw [busEffect_eq, if_neg (by omega), if_neg (by omega), hcollab, if_neg (by decide)]

/-- The test region ignores writes (`20` R68). -/
theorem memWrite_of_testRegion (hlo : 0x4018 ≤ adr.toNat) (hhi : adr.toNat < 0x4020) :
    memWrite s adr v = s := by
  rw [memWrite_eq, if_neg (by omega), if_neg (by omega), if_neg (by omega), if_pos hhi]

/-! ### What a write leaves as it was -/

/-- Of all of RAM a write changes one byte at most (`20` R65). -/
theorem read_memWrite_ram (adr : Addr) (k : Nat) :
    Memory.read (memWrite s adr v).ram k =
      if adr.toNat < 0x2000 ∧ adr.toNat % 2048 = k then v else Memory.read s.ram k := by
  by_cases hram : adr.toNat < 0x2000
  · simp only [memWrite_eq, hram, if_true, true_and, State.setRam_ram, Memory.read_write]
  · have hsame : (memWrite s adr v).ram = s.ram := by
      rw [memWrite_eq, if_neg hram]
      split
      · exact ppuRegWrite_ram s v _
      split
      · rfl
      split <;> rfl
    rw [hsame, if_neg (fun h => hram h.1)]

/-- Outside RAM and the register window a write can change the DMA request or the bank register alone. -/
theorem memWrite_ppu_chr (h : adr.toNat < 0x2000 ∨ 0x4000 ≤ adr.toNat) :
    (memWrite s adr v).ppu = s.ppu ∧ (memWrite s adr v).cart.chr = s.cart.chr := by
  have hchr : (cartWrite s.cart adr v).chr = s.cart.chr := by
    unfold cartWrite
    split
    · rfl
    split <;> rfl
  rw [memWrite_eq]
  split
  · exact ⟨rfl, rfl⟩
  rw [if_neg (by omega)]
  split
  · exact ⟨rfl, rfl⟩
  split
  · exact ⟨rfl, rfl⟩
  · exact ⟨rfl, hchr⟩

/-- The bank register lies at 0x8000 and above (`61` R461). -/
theorem cartWrite_of_lt (c : Cartridge) (h : adr.toNat < 0x8000) : cartWrite c adr v = c := by
  unfold cartWrite
  split
  · rfl
  · exact if_neg (Nat.not_le.mpr h)

theorem memWrite_mapper (h : adr.toNat < 0x8000) : (memWrite s adr v).cart.mapper = s.cart.mapper := by
  rcases memWrite_cart s adr v with e | e | ⟨k, -, -, e⟩
  · rw [e]
  · rw [e, cartWrite_of_lt v s.cart h]
  · rw [e]

/-! ### The data register -/

theorem Ppu.vramAddr_eq (p : Ppu) : p.vramAddr = BitVec.ofNat 14 (p.v.toNat % 16384) := by
  apply BitVec.eq_of_toNat_eq
  simp [Ppu.vramAddr]

/-- `VramIncrement()` as a number: 32 or 1, modulo 2^15 (`62` R518). -/
theorem vramIncrement_eq (p : Ppu) :
    vramIncrement p =
      { p with v := BitVec.ofNat 15 (p.v.toNat + if p.ctrl.getLsbD 2 then 32 else 1) } := by
  have hstep : (if p.ctrl.getLsbD 2 then 32#15 else 1#15) =
      BitVec.ofNat 15 (if p.ctrl.getLsbD 2 then 32 else 1) := by split <;> rfl
  unfold vramIncrement Ppu.inc32
  rw [hstep, BitVec.ofNat_add, BitVec.ofNat_toNat, BitVec.setWidth_eq]

theorem dataReadEffect_eq :
    dataReadEffect s =
      { s with ppu := { s.ppu with
          dataBuffer := ppuRead s.cart s.ppu (BitVec.ofNat 14 (s.ppu.v.toNat % 16384)),
          v := BitVec.ofNat 15 (s.ppu.v.toNat + if s.ppu.ctrl.getLsbD 2 then 32 else 1) } } := by
  unfold dataReadEffect
  rw [vramIncrement_eq, Ppu.vramAddr_eq]
  rfl

/-- A write into PPU space leaves the address and the control register for the increment after it. -/
theorem ppuWrite_v_ctrl (a : BitVec 14) :
    (ppuWrite s a v).ppu.v = s.ppu.v ∧ (ppuWrite s a v).ppu.ctrl = s.ppu.ctrl := by
  unfold ppuWrite
  split
  · split <;> exact ⟨rfl, rfl⟩
  split
  · split <;> exact ⟨rfl, rfl⟩
  · exact ⟨rfl, rfl⟩

/-! ### The obligations on the bus -/

/-- Settles O37: RAM by the law of one memory at the mirrored key; the test region window by window. -/
theorem ramMirrorsAndTestRegion : Obligations.RamMirrorsAndTestRegion := by
  intro s a b v
  refine ⟨fun ha hb => ?_, fun hlo hhi => ?_, ?_, ?_⟩
  · rw [busValue_eq, if_pos hb, busValue_eq, if_pos hb, read_memWrite_ram]
    simp only [ha, true_and]
  · have htop : a.toNat < 0x4020 := Nat.lt_succ_of_le hhi
    exact ⟨busValue_of_silent s (.inr hlo) htop, busEffect_of_silent s (.inr hlo),
      memWrite_of_testRegion s v hlo htop⟩
  · exact busValue_of_silent s (.inl rfl) (by decide)
  · exact busEffect_of_silent s (.inl rfl)

/-- Settles O38: below the register window, in it by register, and above it. -/
theorem readsHaveOnlyTheirSideEffects : Obligations.ReadsHaveOnlyTheirSideEffects := by
  intro s a
  rw [busEffect_eq]
  by_cases hram : a.toNat < 0x2000
  · rw [if_pos hram, if_neg (by omega), if_neg (by omega), if_neg (by omega)]
  by_cases hppu : a.toNat < 0x4000
  · have hlo : 0x2000 ≤ a.toNat := by omega
    have hio : ¬ 0x4000 ≤ a.toNat := by omega
    simp only [hram, hppu, hlo, hio, if_false, if_true, true_and, false_and, ppuRegReadEffect,
      ppuRegOf_eq_iff, dataReadEffect_eq]
    rfl
  · rw [if_neg hram, if_neg hppu, if_neg (c := _ ∧ _ ∧ _ % 8 = 2) (by omega),
      if_neg (c := _ ∧ _ ∧ _ % 8 = 7) (by omega), isCollab_eq]
    simp only [decide_eq_true_eq]
    rfl

/-- Settles O45: every mirror selects the data register, whose accesses are `dataValue`, `dataReadEffect`
and `dataWrite`. -/
theorem dataRegisterIsBuffered : Obligations.DataRegisterIsBuffered := by
  intro s r d hlo hhi hreg a v
  have hdata : ppuRegOf r = 7 := (ppuRegOf_eq_iff r 7).mpr hreg
  have ha : s.ppu.vramAddr = a := s.ppu.vramAddr_eq
  have hv : BitVec.ofNat 15 (s.ppu.v.toNat + if s.ppu.ctrl.getLsbD 2 then 32 else 1) = v := by
    simp only [getLsbD_eq_div, decide_eq_true_eq]
    rfl
  refine ⟨?_, ?_, ?_⟩
  · calc busValue s r
      _ = dataValue s := by rw [busValue_of_ppu s hlo hhi, hdata]; rfl
      _ = _ := by rw [dataValue, ha]; rfl
  · calc busEffect s r
      _ = dataReadEffect s := by rw [busEffect_of_ppu s hlo hhi, hdata]; rfl
      _ = _ := by rw [dataReadEffect_eq, hv]
  · obtain ⟨hkeepv, hkeepctrl⟩ := ppuWrite_v_ctrl s d a
    have hnext : BitVec.ofNat 15 ((ppuWrite s a d).ppu.v.toNat +
        if (ppuWrite s a d).ppu.ctrl.getLsbD 2 then 32 else 1) = v := by rw [hkeepv, hkeepctrl, hv]
    calc memWrite s r d
      _ = dataWrite s d := by rw [memWrite_of_ppu s d hlo hhi, hdata]; rfl
      _ = (ppuWrite s a d).setPpu (vramIncrement (ppuWrite s a d).ppu) := by rw [dataWrite, ha]
      _ = _ := by rw [vramIncrement_eq, hnext]; rfl

end Sys2Proof.Machine

/-! ## What reading and storing forms do to the machine

A form that reads its operand ends in the machine after its read with CPU registers written; a form that stores
ends in the machine after one write at its effective address, with A and the status written (`40` R153). -/

namespace Sys2Proof.Machine

open Rule

variable (s : State) (zp : Byte) (w : Addr)

/-! ### The addressing modes as addresses of the rules -/

/-- A resolver answers the address `n` of the rule and leaves the machine as it was. -/
structure Resolves (s : State) (n : Nat) (e : Ea) : Prop where
  addr : e.addr.toNat = n
  st   : e.st = s

theorem resolves_word {n : Nat} (hn : n < 65536) (af : Bool) :
    Resolves s n { addr := word n, af := af, st := s } :=
  ⟨by rw [BitVec.toNat_ofNat, Nat.mod_eq_of_lt hn], rfl⟩

theorem pageZeroWord_lt (k : Nat) : pageZeroWord k s < 65536 := by
  have hlo := (Memory.read s.ram (k % 256)).isLt
  have hhi := (Memory.read s.ram ((k + 1) % 256)).isLt
  unfold pageZeroWord peek
  omega

@[simp] theorem resolves_eaZp0 : Resolves s zp.toNat (eaZp0 zp s) := by
  rw [eaZp0_eq]; exact resolves_word s (Nat.lt_trans zp.isLt (by decide)) _

@[simp] theorem resolves_eaZpx : Resolves s (zpx zp s) (eaZpx zp s) := by
  rw [eaZpx_eq]; exact resolves_word s (Nat.lt_trans (Nat.mod_lt _ (by decide)) (by decide)) _

@[simp] theorem resolves_eaZpy : Resolves s (zpy zp s) (eaZpy zp s) := by
  rw [eaZpy_eq]; exact resolves_word s (Nat.lt_trans (Nat.mod_lt _ (by decide)) (by decide)) _

@[simp] theorem resolves_eaAbs : Resolves s w.toNat (eaAbs w s) := ⟨rfl, rfl⟩

@[simp] theorem resolves_eaAbx : Resolves s (abx w s) (eaAbx w s) := by
  rw [eaAbx_eq]; exact resolves_word s (Nat.mod_lt _ (by decide)) _

@[simp] theorem resolves_eaAby : Resolves s (aby w s) (eaAby w s) := by
  rw [eaAby_eq]; exact resolves_word s (Nat.mod_lt _ (by decide)) _

@[simp] theorem resolves_eaIzx : Resolves s (izx zp s) (eaIzx zp s) := by
  rw [eaIzx_eq]; exact resolves_word s (pageZeroWord_lt s _) _

@[simp] theorem resolves_eaIzy : Resolves s (izy zp s) (eaIzy zp s) := by
  rw [eaIzy_eq]; exact resolves_word s (Nat.mod_lt _ (by decide)) _

@[simp] theorem eaZp0_st : (eaZp0 zp s).st = s := rfl
@[simp] theorem eaZpx_st : (eaZpx zp s).st = s := rfl
@[simp] theorem eaZpy_st : (eaZpy zp s).st = s := rfl
@[simp] theorem eaAbs_st : (eaAbs w s).st = s := rfl
@[simp] theorem eaAbx_st : (eaAbx w s).st = s := rfl
@[simp] theorem eaAby_st : (eaAby w s).st = s := rfl
@[simp] theorem eaIzx_st : (eaIzx zp s).st = s := (resolves_eaIzx s zp).st
@[simp] theorem eaIzy_st : (eaIzy zp s).st = s := (resolves_eaIzy s zp).st

/-! ### Forms that read -/

/-- No byte of RAM, the cartridge or the picture processor's memories was stored, nor was the stack pointer,
the program counter or the DMA state (`20` R76). -/
structure StoresNothing (s t : State) : Prop where
  ram  : t.ram = s.ram
  cart : t.cart = s.cart
  dma  : t.dma = s.dma
  oam  : t.ppu.oam = s.ppu.oam
  nt0  : t.ppu.nt0 = s.ppu.nt0
  nt1  : t.ppu.nt1 = s.ppu.nt1
  pal  : t.ppu.pal = s.ppu.pal
  sp   : t.sp = s.sp
  pc   : t.pc = s.pc

@[simp] theorem storesNothing_refl : StoresNothing s s := ⟨rfl, rfl, rfl, rfl, rfl, rfl, rfl, rfl, rfl⟩

@[simp] theorem storesNothing_busEffect (adr : Addr) : StoresNothing s (busEffect s adr) := by
  rw [readsHaveOnlyTheirSideEffects s adr]
  split
  · exact { storesNothing_refl s with }
  split
  · exact { storesNothing_refl s with }
  split
  · exact { storesNothing_refl s with }
  · exact storesNothing_refl s

/-! Writing A, X, Y or the status stores nothing. -/

@[simp] theorem storesNothing_setA (u : State) (v : Byte) :
    StoresNothing s (u.setA v) ↔ StoresNothing s u := ⟨fun h => { h with }, fun h => { h with }⟩

@[simp] theorem storesNothing_setX (u : State) (v : Byte) :
    StoresNothing s (u.setX v) ↔ StoresNothing s u := ⟨fun h => { h with }, fun h => { h with }⟩

@[simp] theorem storesNothing_setY (u : State) (v : Byte) :
    StoresNothing s (u.setY v) ↔ StoresNothing s u := ⟨fun h => { h with }, fun h => { h with }⟩

@[simp] theorem storesNothing_setP (u : State) (v : Byte) :
    StoresNothing s (u.setP v) ↔ StoresNothing s u := ⟨fun h => { h with }, fun h => { h with }⟩

@[simp] theorem storesNothing_setZN (u : State) (v : Byte) :
    StoresNothing s (u.setZN v) ↔ StoresNothing s u := ⟨fun h => { h with }, fun h => { h with }⟩

/-- The outcome is a next state in which nothing was stored. -/
def Reads (s : State) (o : Out) : Prop := ∃ t, o = .next t ∧ StoresNothing s t

theorem reads_finish {s t : State} {base bp : Nat} {af xf : Bool} (h : StoresNothing s t) :
    Reads s (finish base af xf bp t) :=
  ⟨_, rfl, { h with }⟩

/-- Every reading form ends, by `finish`, in its body on the machine after at most one bus read, and the body
writes registers alone. -/
theorem reads_of_mem_readingForms (m : Byte) :
    ∀ f ∈ readingForms m zp w s, Reads s (exec f.instr s) := by
  simp only [readingForms, List.forall_mem_append, ldaForms, ldxForms, ldyForms, laxForms, adcForms,
    sbcForms, andForms, oraForms, eorForms, cmpForms, cpxForms, cpyForms, bitForms, List.forall_mem_cons,
    List.not_mem_nil, false_implies, implies_true, and_true, immediate, reading]
  and_intros
  all_goals exact reads_finish (by simp [loadA, loadX, loadY, loadAX, addWithCarry, subtract, andA, orA, eorA,
    resultA, compareA, compareX, compareY, bitTest])

/-! ### Forms that store -/

/-- `t` is `u` with A and the status written. -/
def WritesAccumulator (u t : State) : Prop := ∃ a p, t = { u with a := a, p := p }

/-- The outcome of a storing form with effective address `n`: after at most a read at that address, one write
there, then A, the status and the cycles. -/
def Stores (s : State) (n : Nat) (o : Out) : Prop :=
  ∃ (adr : Addr) (r : State) (v : Byte) (t : State) (cycles : Nat), adr.toNat = n
    ∧ (r = s ∨ r = busEffect s adr) ∧ WritesAccumulator (memWrite r adr v) t ∧ o = done t cycles

section

variable {s} {n base : Nat} {e : Ea}

theorem stores_storeOp {value : State → Byte} (he : Resolves s n e) : Stores s n (storeOp base value e) := by
  obtain ⟨adr, af, st⟩ := e
  obtain ⟨haddr, rfl⟩ := he
  exact ⟨adr, _, _, _, _, haddr, .inl rfl, ⟨_, _, rfl⟩, storeOp_eq _ _ _ adr af⟩

theorem stores_rmwOp {result : Byte → Bool → Byte} {after : Byte → Byte → State → State}
    (he : Resolves s n e) (hafter : ∀ m v u, WritesAccumulator u (after m v u)) :
    Stores s n (rmwOp base result after e) := by
  obtain ⟨adr, af, st⟩ := e
  obtain ⟨haddr, rfl⟩ := he
  exact ⟨adr, _, _, _, _, haddr, .inr rfl, hafter _ _ _, rmwOp_eq _ _ _ _ adr af⟩

end

/-- STA, STX, STY and SAX have the shape that stores, every other storing form reads, modifies and writes. -/
theorem stores_of_mem_storingForms : ∀ f ∈ storingForms zp w s, Stores s f.ea (exec f.instr s) := by
  have hstore : ∀ f ∈ staForms zp w s ++ stxForms zp w s ++ styForms zp w s ++ saxForms zp w s,
      Stores s f.ea (exec f.instr s) := by
    simp only [List.forall_mem_append, staForms, stxForms, styForms, saxForms, List.forall_mem_cons,
      List.not_mem_nil, false_implies, implies_true, and_true]
    and_intros
    all_goals exact stores_storeOp (by simp)
  have hrmw : ∀ f ∈ incForms zp w s ++ decForms zp w s ++ aslForms zp w s ++ lsrForms zp w s
      ++ rolForms zp w s ++ rorForms zp w s ++ dcpForms zp w s ++ iscForms zp w s ++ sloForms zp w s
      ++ rlaForms zp w s ++ sreForms zp w s ++ rraForms zp w s, Stores s f.ea (exec f.instr s) := by
    simp only [List.forall_mem_append, incForms, decForms, aslForms, lsrForms, rolForms, rorForms, dcpForms,
      iscForms, sloForms, rlaForms, sreForms, rraForms, List.forall_mem_cons, List.not_mem_nil,
      false_implies, implies_true, and_true]
    and_intros
    all_goals exact stores_rmwOp (by simp) (fun _ _ _ => ⟨_, _, rfl⟩)
  simp only [storingForms, List.forall_mem_append] at hstore hrmw ⊢
  tauto

/-- An address in RAM or program memory reads the same from two machines with the same RAM and cartridge. -/
theorem busValue_of_plain {s t : State} (hram : t.ram = s.ram) (hcart : t.cart = s.cart) {b : Addr}
    (hb : plain b) : busValue t b = busValue s b := by
  rcases hb with hb | hb
  · rw [busValue_eq, if_pos hb, busValue_eq, if_pos hb, hram]
  · have hspace : 0x4020#16 ≤ b := Nat.le_trans (by decide) hb
    rw [busValue_of_cart t b hspace, busValue_of_cart s b hspace, hcart]

/-! ### The obligations on reading and storing forms -/

/-- Settles O12: every reading form ends in a state with the same memories. -/
theorem readsStoreNothing : Obligations.ReadsStoreNothing := by
  intro s t m zp w f hf hexec
  obtain ⟨u, hu, h⟩ := reads_of_mem_readingForms s zp w m f hf
  obtain rfl : u = t := Host.Outcome.next.inj (hu.symm.trans hexec)
  exact ⟨fun b hb => busValue_of_plain h.ram h.cart hb, h.ram, h.cart, h.dma, h.oam, h.nt0, h.nt1, h.pal,
    h.sp, h.pc⟩

/-- Settles O11: every storing form is one bus write at its effective address, and the frame is that write's. -/
theorem storesLeaveOtherBytes : Obligations.StoresLeaveOtherBytes := by
  intro s t zp w f hf hexec
  obtain ⟨adr, r, v, u, cycles, hadr, hr, ⟨a, p, rfl⟩, hdone⟩ := stores_of_mem_storingForms s zp w f hf
  obtain rfl := Host.Outcome.next.inj (hexec.symm.trans hdone)
  rw [← hadr]
  obtain ⟨hread, hx, hy⟩ : StoresNothing s r ∧ r.x = s.x ∧ r.y = s.y := by
    rcases hr with rfl | rfl <;> simp
  refine ⟨fun b hb hne => ?_, ?_, fun hlt => ?_, fun hout => ?_, ?_, ?_, ?_, ?_⟩
  · rw [busValue_eq, if_pos hb, busValue_eq, if_pos hb]
    show Memory.read (memWrite r adr v).ram _ = _
    rw [read_memWrite_ram, if_neg hne, hread.ram]
  · rw [← hread.cart]
    exact (sameCartridge_memWrite r adr v).prg
  · rw [← hread.cart]
    exact memWrite_mapper r v hlt
  · obtain ⟨hppu, hchr⟩ := memWrite_ppu_chr r v hout
    rw [← hread.cart, ← hread.oam, ← hread.nt0, ← hread.nt1, ← hread.pal, ← hppu]
    exact ⟨rfl, rfl, rfl, rfl, hchr⟩
  · exact (memWrite_sp r adr v).trans hread.sp
  · exact (memWrite_pc r adr v).trans hread.pc
  · exact (memWrite_x r adr v).trans hx
  · exact (memWrite_y r adr v).trans hy

end Sys2Proof.Machine

/-! ## Entering a handler

BRK, `irq()` and `nmi()` in the words of the rules: three bytes pushed, the vector read from the cartridge
(`45` R302; `60` R410 to R414). -/

namespace Sys2Proof.Machine

open Rule

variable (s : State)

/-! ### The stack and the vector as numbers -/

/-- The stack byte `k` places from the pointer, by the pointer moved on `k` places. -/
theorem stackKey_eq (k : Nat) : stackKey s k = 256 + (s.sp + BitVec.ofNat 8 k).toNat := by
  rw [stackKey, BitVec.toNat_add, BitVec.toNat_ofNat, Nat.add_mod_mod]

theorem loByte_eq (w : Addr) : loByte w = BitVec.ofNat 8 (w.toNat % 256) := by
  apply BitVec.eq_of_toNat_eq
  rw [toNat_loByte, BitVec.toNat_ofNat, Nat.mod_mod]

theorem hiByte_eq (w : Addr) : hiByte w = BitVec.ofNat 8 (w.toNat / 256) := by
  apply BitVec.eq_of_toNat_eq
  rw [toNat_hiByte, BitVec.toNat_ofNat, Nat.mod_eq_of_lt (by have := w.isLt; omega)]

theorem cartSpace_word {n : Nat} (hlo : 0x4020 ≤ n) (hhi : n < 65536) : 0x4020#16 ≤ word n := by
  show 0x4020 ≤ n % 65536
  omega

theorem word_succ (n : Nat) : word (n + 1) = word n + 1 := BitVec.ofNat_add n 1

/-- A vector in cartridge space is the word that the cartridge shows there, low byte first (`20` R71). -/
theorem vector_eq {n : Nat} (hlo : 0x4020 ≤ n) (hhi : n < 65535) :
    vector s n = wordOf (cartRead s.cart (word n + 1)) (cartRead s.cart (word n)) := by
  rw [vector, busValue_of_cart s _ (cartSpace_word hlo (by omega)),
    busValue_of_cart s _ (cartSpace_word (Nat.le_succ_of_le hlo) (by omega)), word_succ]
  apply BitVec.eq_of_toNat_eq
  have hl := (cartRead s.cart (word n)).isLt
  have hh := (cartRead s.cart (word n + 1)).isLt
  rw [toNat_wordOf, BitVec.toNat_ofNat]
  omega

/-- RAM after the three pushes of an entry. -/
theorem pushed3_eq (w : Addr) (status : Byte) :
    pushed3 s w status =
      Memory.write (Memory.write (Memory.write s.ram (256 + s.sp.toNat) (hiByte w))
        (256 + (s.sp - 1).toNat) (loByte w)) (256 + (s.sp - 2).toNat) status := by
  have h255 : s.sp - 1 = s.sp + 255#8 := BitVec.sub_eq_add_neg s.sp 1
  have h254 : s.sp - 2 = s.sp + 254#8 := BitVec.sub_eq_add_neg s.sp 2
  rw [pushed3, stackKey_eq, stackKey_eq, stackKey_eq, hiByte_eq, loByte_eq, BitVec.add_zero, h255, h254]

/-- The entry that BRK, `irq()` and `nmi()` share, in the words of the rules (`60` R410, `45` R302). -/
theorem enterHandler_rule (status : Byte) {n : Nat} (hlo : 0x4020 ≤ n) (hhi : n < 65535) :
    enterHandler status (word n) s =
      { s with
        ram := pushed3 s s.pc status, sp := BitVec.ofNat 8 (s.sp.toNat + 253), p := setFlag s.p .i true,
        pc := vector s n } := by
  have hnext : 0x4020#16 ≤ word n + 1 := word_succ n ▸ cartSpace_word (Nat.le_succ_of_le hlo) (by omega)
  have hsp : BitVec.ofNat 8 (s.sp.toNat + 253) = s.sp - 3 := (byte_sub_eq s.sp 3).symm
  rw [enterHandler_eq s (word n) status (cartSpace_word hlo (by omega)) hnext, pushed3_eq,
    vector_eq s hlo hhi, hsp]

/-! ### The status of an entry -/

/-- Break cleared and always-set forced is the mask of the rule (`60` R412). -/
theorem pushedByInterrupt_eq (p : Byte) : pushedByInterrupt p = (p &&& 0xCF#8) ||| 0x20#8 := by
  apply status_ext
  intro f
  rw [getFlag_pushedByInterrupt]
  cases f <;> simp [getFlag, StatusFlag.pos]

/-- The body of `irq()` and `nmi()` in the words of the rules (`60` R410 to R414). -/
theorem takeInterrupt_rule {v : Nat} (hlo : 0x4020 ≤ v) (hhi : v < 65535) (n : Nat) :
    takeInterrupt (word v) n s =
      { s with
        ram := pushed3 s s.pc ((s.p &&& 0xCF#8) ||| 0x20#8), sp := BitVec.ofNat 8 (s.sp.toNat + 253),
        p := statusByte (s.flag .n) (s.flag .v) false (s.flag .d) true (s.flag .z) (s.flag .c),
        pc := vector s v, cycles := n } := by
  have hp : setFlag (pushedByInterrupt s.p) .i true =
      statusByte (s.flag .n) (s.flag .v) false (s.flag .d) true (s.flag .z) (s.flag .c) := by
    apply statusByte_eq <;> simp [State.flag, getFlag_setFlag, getFlag_pushedByInterrupt]
  unfold takeInterrupt
  dsimp only
  rw [enterHandler_rule _ _ hlo hhi, ← hp, ← pushedByInterrupt_eq]
  rfl

/-! ### The obligations on BRK and the interrupts -/

/-- Settles O31: BRK is the shared entry behind its padding byte. -/
theorem brkEntersTheIrqHandler : Obligations.BrkEntersTheIrqHandler := by
  intro s
  refine ⟨?_, rfl⟩
  calc exec .brk s
    _ = done (enterHandler (pushedByInstruction s.p) (word 0xFFFE) (s.setPc (s.pc + 1))) 7 := rfl
    _ = _ := by
      rw [enterHandler_rule _ _ (by decide) (by decide), ← flagSet_eq]
      rfl

/-- Settles O33: NMI, and IRQ when it is not masked, are the shared entry with the interrupt's status. -/
theorem interruptEntry : Obligations.InterruptEntry := by
  intro s entered
  refine ⟨takeInterrupt_rule s (by decide) (by decide) 8, fun h => ?_, fun h => ?_⟩
  · unfold irq
    rw [h]
    exact takeInterrupt_rule s (v := 0xFFFE) (by decide) (by decide) 7
  · unfold irq
    rw [h]
    rfl

end Sys2Proof.Machine

/-! ## Encoding and decoding

The decoder answers what the table reads from the first three bytes (`30` R102, R104). An entry of the table
encodes to the bytes it was read from, and the entry at the opcode of an instruction reads it back, so decoder and
encoder undo each other. -/

namespace Sys2Proof

/-! ### The table by its rows -/

/-- The sixteen rows of the table (`30` R110). -/
def opRows : List (List (Byte → Byte → Instr)) :=
  [opRow0, opRow1, opRow2, opRow3, opRow4, opRow5, opRow6, opRow7, opRow8, opRow9, opRowA, opRowB, opRowC,
    opRowD, opRowE, opRowF]

theorem flatten_opRows : opRows.flatten = opTable := by
  simp only [opRows, opTable, List.flatten_cons, List.flatten_nil, List.append_nil, List.append_assoc]

theorem length_of_mem_opRows : ∀ row ∈ opRows, row.length = 16 := by
  intro row hrow
  fin_cases hrow <;> rfl

/-- In rows of `n` entries each, entry `n * k + j` is entry `j` of row `k`. -/
theorem getD_flatten_of_length {α : Type} {rows : List (List α)} {n j : Nat}
    (hrows : ∀ row ∈ rows, row.length = n) (hj : j < n) (k : Nat) (d : α) :
    rows.flatten.getD (n * k + j) d = (rows.getD k []).getD j d := by
  induction rows generalizing k with
  | nil => rfl
  | cons row rows ih =>
    obtain ⟨rfl, hrows⟩ := List.forall_mem_cons.mp hrows
    rw [List.flatten_cons]
    cases k with
    | zero => rw [Nat.mul_zero, Nat.zero_add, List.getD_append _ _ _ _ hj, List.getD_cons_zero]
    | succ k =>
      rw [Nat.mul_succ, Nat.add_right_comm, List.getD_append_right _ _ _ _ (Nat.le_add_left _ _),
        Nat.add_sub_cancel, ih hrows, List.getD_cons_succ]

/-- The high half of the opcode selects the row of the table, the low half the entry in it. -/
theorem decodeBytes_eq (op b c : Byte) :
    decodeBytes op b c =
      (opRows.getD (op.toNat / 16) []).getD (op.toNat % 16) (fun _ _ => .stp op) b c := by
  have hlow : op.toNat % 16 < 16 := Nat.mod_lt _ (by decide)
  rw [← getD_flatten_of_length length_of_mem_opRows hlow, Nat.div_add_mod, flatten_opRows, decodeBytes]

/-! ### From bytes to an instruction and back -/

/-- Behind its opcode an entry encodes to as many of its operand bytes as its format has, a word low byte first
(`30` R101). -/
theorem tail_encode_of_mem_opRows :
    ∀ row ∈ opRows, ∀ e ∈ row, ∀ b c,
      (encode (e b c)).tail = [b, c].take ((encode (e b c)).length - 1) := by
  intro row hrow e he b c
  fin_cases hrow
  all_goals fin_cases he
  any_goals exact rfl
  all_goals exact congrArg₂ (fun lo hi => [lo, hi]) (loByte_wordOf c b) (hiByte_wordOf c b)

theorem tail_encode_decodeBytes (op b c : Byte) :
    (encode (decodeBytes op b c)).tail = [b, c].take (instrLength op - 1) := by
  have hop : op.toNat < opTable.length := length_opTable ▸ op.isLt
  have hmem : opTable[op.toNat] ∈ opRows.flatten := by
    rw [flatten_opRows]
    exact List.getElem_mem hop
  obtain ⟨row, hrow, he⟩ := List.mem_flatten.mp hmem
  rw [← (entryOk_decodeBytes op b c).2.2, decodeBytes, ← List.getElem_eq_getD (h := hop)]
  exact tail_encode_of_mem_opRows row hrow _ he b c

theorem encode_decodeBytes (op b c : Byte) :
    encode (decodeBytes op b c) = op :: [b, c].take (instrLength op - 1) := by
  rw [← List.cons_head?_tail (entryOk_decodeBytes op b c).1, tail_encode_decodeBytes]

theorem instrLength_pos (op : Byte) : 1 ≤ instrLength op := by
  have := instrLength_cases op
  omega

theorem instrLength_le (op : Byte) : instrLength op ≤ 3 := by
  have := instrLength_cases op
  omega

/-- An instruction and the bytes left make up the bytes there were. -/
theorem encode_decodeBytes_append (op b c : Byte) (rest : List Byte) :
    encode (decodeBytes op b c) ++ (b :: c :: rest).drop (instrLength op - 1) = op :: b :: c :: rest := by
  have hle : instrLength op - 1 ≤ [b, c].length := Nat.sub_le_sub_right (instrLength_le op) 1
  calc encode (decodeBytes op b c) ++ (b :: c :: rest).drop (instrLength op - 1)
    _ = op :: (([b, c] ++ rest).take (instrLength op - 1) ++ ([b, c] ++ rest).drop (instrLength op - 1)) := by
      rw [encode_decodeBytes, List.take_append_of_le_length hle]
      rfl
    _ = op :: b :: c :: rest := by
      rw [List.take_append_drop]
      rfl

theorem decode_cons {op : Byte} {rest : List Byte} (h : instrLength op ≤ rest.length + 1) :
    decode (op :: rest) =
      .ok (decodeBytes op (rest.getD 0 0#8) (rest.getD 1 0#8), rest.drop (instrLength op - 1)) :=
  if_neg (Nat.not_lt.mpr h)

/-! ### From an instruction to bytes and back -/

theorem encode_ne_nil (i : Instr) : encode i ≠ [] := by
  cases i <;> exact List.cons_ne_nil _ _

/-- The table reads a well-formed instruction back from its bytes, whatever follows them (`30` R102): the opcode
selects the instruction's own entry, and an operand word is its two bytes. -/
theorem decodeBytes_of_encode_eq_cons {i : Instr} {op : Byte} {operand : List Byte} (hwf : i.wellFormed = true)
    (h : encode i = op :: operand) (rest : List Byte) :
    decodeBytes op ((operand ++ rest).getD 0 0#8) ((operand ++ rest).getD 1 0#8) = i := by
  rw [decodeBytes_eq]
  cases i
  case stp op =>
    have hop : op ∈ stpOpcodes := List.contains_iff_mem.mp hwf
    cases h
    fin_cases hop <;> rfl
  case rsvImm op imm =>
    have hop : op ∈ rsvImmOpcodes := List.contains_iff_mem.mp hwf
    cases h
    fin_cases hop <;> rfl
  case rsvAby op w =>
    have hop : op ∈ rsvAbyOpcodes := List.contains_iff_mem.mp hwf
    cases h
    fin_cases hop <;> exact congrArg _ (wordOf_hiByte_loByte w)
  all_goals cases h
  any_goals exact rfl
  all_goals exact congrArg _ (wordOf_hiByte_loByte _)

/-! ### The obligations on the encoding -/

/-- Settles O1: the table reads the instruction back, so its length is the one its opcode announces. -/
theorem decodeOfEncode : Obligations.DecodeOfEncode := by
  intro i rest hwf
  obtain ⟨op, operand, henc⟩ := List.exists_cons_of_ne_nil (encode_ne_nil i)
  have hi := decodeBytes_of_encode_eq_cons hwf henc rest
  have hlen : instrLength op = operand.length + 1 := by
    rw [← (entryOk_decodeBytes op _ _).2.2, hi, henc, List.length_cons]
  have hle : instrLength op ≤ (operand ++ rest).length + 1 := by
    rw [hlen, List.length_append]
    omega
  rw [henc, List.cons_append, decode_cons hle, hi, hlen, Nat.add_sub_cancel, List.drop_left]

/-- Settles O2: three bytes are enough for every opcode, and the table's entry encodes to what it read. -/
theorem everyBytesDecode : Obligations.EveryBytesDecode := by
  intro bs h
  obtain ⟨op, b, c, rest, rfl⟩ : ∃ op b c rest, bs = op :: b :: c :: rest := by
    match bs, h with
    | op :: b :: c :: rest, _ => exact ⟨op, b, c, rest, rfl⟩
  have hle : instrLength op ≤ (b :: c :: rest).length + 1 := (instrLength_le op).trans h
  obtain ⟨-, hwf, hlen⟩ := entryOk_decodeBytes op b c
  exact ⟨_, _, decode_cons hle, hwf, encode_decodeBytes_append op b c rest, hlen ▸ instrLength_pos op,
    hlen ▸ instrLength_le op⟩

/-- Bytes that are the encoding of a well-formed instruction decode to it, and nothing is left. -/
theorem decode_of_encode_eq {i : Instr} {bs : List Byte} (hwf : i.wellFormed = true) (h : encode i = bs) :
    decode bs = .ok (i, []) := by
  rw [← h, ← List.append_nil (encode i)]
  exact decodeOfEncode i [] hwf

/-- Settles O3: each word is the encoding of its instruction. -/
theorem decodedWords : Obligations.DecodedWords := by
  refine ⟨?_, ?_, ?_, ?_, ?_, ?_, ?_, ?_, ?_, ?_, ?_, ?_, ?_, ?_, ?_, ?_⟩
  all_goals exact decode_of_encode_eq (by decide) (by decide)

end Sys2Proof

/-! ## JMP

The address of the pointer's high byte and the target in the words of the rules (`40` R150, `44` R269). -/

namespace Sys2Proof.Machine

open Rule

theorem wordOf_eq_word (hi lo : Byte) : wordOf hi lo = word (lo.toNat + 256 * hi.toNat) := by
  have hhi := hi.isLt
  have hlo := lo.isLt
  apply BitVec.eq_of_toNat_eq
  rw [toNat_wordOf, BitVec.toNat_ofNat]
  omega

/-- The high byte of a pointer lies on the page of its low byte, at the next place modulo 256. -/
theorem pointerHigh_eq_word (ptr : Addr) :
    pointerHigh ptr = word (ptr.toNat / 256 * 256 + (ptr.toNat + 1) % 256) := by
  have hlo : (loByte ptr + 1).toNat = (ptr.toNat + 1) % 256 := by
    rw [BitVec.toNat_add, toNat_loByte]
    exact Nat.mod_add_mod _ _ _
  rw [pointerHigh, wordOf_eq_word, toNat_hiByte, hlo, Nat.add_comm, Nat.mul_comm]

/-- IND reads the low byte at the pointer, then the high byte in the machine after that read. -/
theorem eaInd_eq (ptr : Addr) (s : State) :
    eaInd ptr s =
      { addr := word ((busValue s ptr).toNat
          + 256 * (busValue (busEffect s ptr) (pointerHigh ptr)).toNat),
        af := false, st := busEffect (busEffect s ptr) (pointerHigh ptr) } := by
  rw [← wordOf_eq_word]
  rfl

theorem jumpOp_eq (base : Nat) (a : Addr) (s : State) :
    jumpOp base { addr := a, af := false, st := s } =
      .next { s with pc := a, p := sameFlags s, cycles := base } := by
  rw [← sameFlags_eq]
  rfl

theorem sameFlags_busEffect (s : State) (adr : Addr) : sameFlags (busEffect s adr) = sameFlags s := by
  simp only [sameFlags, busEffect_flag]

/-- Settles O25: a jump goes to its effective address, and IND resolves to the word its two reads answer. -/
theorem jmpAndItsPageBug : Obligations.JmpAndItsPageBug := by
  intro s w
  refine ⟨jumpOp_eq 3 w s, ?_, rfl, rfl⟩
  calc exec (.jmpInd w) s
    _ = jumpOp 5 (eaInd w s) := rfl
    _ = _ := by
      rw [eaInd_eq, jumpOp_eq, sameFlags_busEffect, sameFlags_busEffect, pointerHigh_eq_word]

end Sys2Proof.Machine

/-! ## A processor slot that executes

Where the code lies in RAM or program memory a fetch reads back the instruction whose bytes are there and only
moves `PC`; and an instruction leaves alone what the end of a tick looks at (`40` R130, R131; `64` R631). -/

namespace Sys2Proof.Machine

open Rule

variable {s t : State} {adr : Addr}

/-! ### Code in memory -/

/-- The bytes lie in RAM or program memory from an address on. -/
def CodeAt (s : State) (adr : Addr) (bs : List Byte) : Prop :=
  ∀ k v, bs[k]? = some v → plain (adr + word k) ∧ busValue s (adr + word k) = v

theorem CodeAt.head {v : Byte} {bs : List Byte} (h : CodeAt s adr (v :: bs)) :
    plain adr ∧ busValue s adr = v := by
  have h0 := h 0 v rfl
  rwa [BitVec.add_zero] at h0

theorem CodeAt.tail {v : Byte} {bs : List Byte} (h : CodeAt s adr (v :: bs)) :
    CodeAt s (adr + 1) bs := by
  intro k u hu
  have hk := h (k + 1) u hu
  rwa [word_succ, BitVec.add_comm (word k), ← BitVec.add_assoc] at hk

/-- Code is seen alike by two machines with the same RAM and cartridge. -/
theorem CodeAt.congr {bs : List Byte} (h : CodeAt s adr bs) (hram : t.ram = s.ram)
    (hcart : t.cart = s.cart) : CodeAt t adr bs := by
  intro k v hv
  obtain ⟨hplain, hvalue⟩ := h k v hv
  exact ⟨hplain, (busValue_of_plain hram hcart hplain).trans hvalue⟩

/-- What the decoder reads at an address is the instruction whose bytes lie there, so far as they are in RAM or
program memory (`30` R100, R102). -/
theorem codeAt_of_decode {i : Instr} {rest : List Byte}
    (hdecode : decode [busValue s adr, busValue s (adr + 1), busValue s (adr + 2)] = .ok (i, rest))
    (hplain : ∀ k, k < (encode i).length → plain (adr + word k)) :
    i.wellFormed = true ∧ CodeAt s adr (encode i) := by
  obtain ⟨j, r, hj, hwf, hbytes, -, hlen⟩ := everyBytesDecode
    [busValue s adr, busValue s (adr + 1), busValue s (adr + 2)] (le_refl 3)
  cases hdecode.symm.trans hj
  refine ⟨hwf, fun k v hv => ?_⟩
  obtain ⟨hk, -⟩ := List.getElem?_eq_some_iff.mp hv
  refine ⟨hplain k hk, ?_⟩
  rw [← List.getElem?_append_left hk (l₂ := rest), hbytes] at hv
  obtain rfl | rfl | rfl : k = 0 ∨ k = 1 ∨ k = 2 := by omega
  · rw [BitVec.add_zero]
    exact Option.some.inj hv
  · exact Option.some.inj hv
  · exact Option.some.inj hv

/-! ### Fetching code in memory -/

theorem busEffect_of_plain (s : State) (h : plain adr) : busEffect s adr = s := by
  rcases h with h | h
  · rw [busEffect_eq, if_pos h]
  · exact busEffect_of_silent s (.inr (Nat.le_trans (by decide) h))

theorem skipByte_of_codeAt {v : Byte} {bs : List Byte} (h : CodeAt s s.pc (v :: bs)) :
    skipByte s = (v, s.setPc (s.pc + 1)) := by
  rw [skipByte, h.head.2]

theorem fetchByte_of_codeAt {v : Byte} {bs : List Byte} (h : CodeAt s s.pc (v :: bs)) :
    fetchByte s = (v, s.setPc (s.pc + 1)) := by
  rw [fetchByte_eq, h.head.2, busEffect_of_plain s h.head.1]

/-- The operand bytes in memory are the ones fetched, whether or not the bus reads them; a byte that the format
lacks is 0. -/
theorem fetchOperands_of_codeAt {op : Byte} {operand : List Byte}
    (hlen : instrLength op = operand.length + 1) (h : CodeAt s s.pc operand) :
    fetchOperands op s =
      (operand.getD 0 0#8, operand.getD 1 0#8, s.setPc (s.pc + word operand.length)) := by
  unfold fetchOperands
  match operand with
  | [] =>
    have hone : instrLength op = 1 := hlen
    rw [if_pos hone, List.length_nil, BitVec.add_zero]
    rfl
  | [b] =>
    have htwo : instrLength op = 2 := hlen
    rw [htwo, if_neg (by decide), if_pos rfl, skipByte_of_codeAt h, fetchByte_of_codeAt h, ite_self]
    rfl
  | [b, c] =>
    have hthree : instrLength op = 3 := hlen
    have hsecond : CodeAt (s.setPc (s.pc + 1)) (s.pc + 1) [c] := h.tail.congr rfl rfl
    rw [hthree, if_neg (by decide), if_neg (by decide), fetchByte_of_codeAt h]
    dsimp only
    rw [fetchByte_of_codeAt hsecond, State.setPc_pc, BitVec.add_assoc]
    rfl
  | _ :: _ :: _ :: _ =>
    have hle := instrLength_le op
    simp only [hlen, List.length_cons] at hle
    omega

/-- Fetching the bytes of a well-formed instruction from RAM or program memory gives it back and does nothing
but move `PC` past them (`40` R130, R131; `20` R77). -/
theorem fetch_of_codeAt {i : Instr} (hwf : i.wellFormed = true) (h : CodeAt s s.pc (encode i)) :
    fetch s = (i, s.setPc (s.pc + word (encode i).length)) := by
  obtain ⟨op, operand, henc⟩ := List.exists_cons_of_ne_nil (encode_ne_nil i)
  have hi : decodeBytes op (operand.getD 0 0#8) (operand.getD 1 0#8) = i := by
    simpa using decodeBytes_of_encode_eq_cons hwf henc []
  have hlen : instrLength op = operand.length + 1 := by
    rw [← (entryOk_decodeBytes op _ _).2.2, hi, henc, List.length_cons]
  rw [henc] at h
  have hoperand : CodeAt (s.setPc (s.pc + 1)) (s.pc + 1) operand := h.tail.congr rfl rfl
  have hpc : s.pc + 1 + word operand.length = s.pc + word (operand.length + 1) := by
    rw [BitVec.add_assoc, BitVec.add_comm 1, word_succ]
  unfold fetch
  rw [fetchByte_of_codeAt h]
  dsimp only
  rw [fetchOperands_of_codeAt hlen hoperand, hi, State.setPc_pc, hpc, henc, List.length_cons]
  rfl

/-! ### What an instruction leaves alone -/

section

variable (s : State) (v : Byte)

@[simp] theorem ppuRegReadEffect_nmiRequest (n : BitVec 3) :
    (ppuRegReadEffect s n).ppu.nmiRequest = s.ppu.nmiRequest := by
  unfold ppuRegReadEffect statusEffect dataReadEffect; split <;> try split
  all_goals rfl

@[simp] theorem busEffect_nmiRequest (adr : Addr) :
    (busEffect s adr).ppu.nmiRequest = s.ppu.nmiRequest := by
  unfold busEffect; repeat' split
  all_goals simp

@[simp] theorem ppuWrite_nmiRequest (n : BitVec 14) :
    (ppuWrite s n v).ppu.nmiRequest = s.ppu.nmiRequest := by
  unfold ppuWrite; repeat' split
  all_goals rfl

theorem scrollWrite_nmiRequest (p : Ppu) : (scrollWrite v p).nmiRequest = p.nmiRequest := by
  unfold scrollWrite; split <;> rfl

theorem addrWrite_nmiRequest (p : Ppu) : (addrWrite v p).nmiRequest = p.nmiRequest := by
  unfold addrWrite; split <;> rfl

@[simp] theorem ppuRegWrite_nmiRequest (n : BitVec 3) :
    (ppuRegWrite s n v).ppu.nmiRequest = s.ppu.nmiRequest := by
  unfold ppuRegWrite; repeat' split
  all_goals simp [ctrlWrite, oamDataWrite, scrollWrite_nmiRequest, addrWrite_nmiRequest, dataWrite,
    vramIncrement]

@[simp] theorem memWrite_nmiRequest (adr : Addr) :
    (memWrite s adr v).ppu.nmiRequest = s.ppu.nmiRequest := by
  unfold memWrite; repeat' split
  all_goals simp

end

/-- The master counter, the requests of the host and a standing NMI request are beyond the CPU's reach (`64`
R631, R636). -/
theorem Accesses.tickEnd_frame (h : Accesses s t) :
    t.master = s.master ∧ t.requests = s.requests ∧ t.ppu.nmiRequest = s.ppu.nmiRequest := by
  induction h with
  | refl => exact ⟨rfl, rfl, rfl⟩
  | read adr _ ih => simpa using ih
  | write adr v _ ih => simpa using ih
  | regs a x y sp pc p cycles jammed _ ih => exact ih

/-! ### The step -/

theorem countDown_eq (s : State) :
    countDown s = { s with cycles := if s.jammed then s.cycles else s.cycles - 1 } := by
  unfold countDown
  split <;> rfl

/-- The end of a tick in which an instruction was executed, with nothing to deliver. -/
theorem tickEnd_countDown {i : Instr} (h : exec i s = .next t)
    (hquiet : s.requests.headD { reset := false, irq := false } = { reset := false, irq := false })
    (hn : s.ppu.nmiRequest = false) :
    tickEnd (countDown t) =
      .next { t with cycles := if t.jammed then t.cycles else t.cycles - 1,
                     master := s.master + 1, requests := s.requests.tail } := by
  obtain ⟨hmaster, hrequests, hnmi⟩ := ((exec_accesses h).trans (accesses_countDown t)).tickEnd_frame
  rw [tickEnd_quiet (countDown t) (hrequests ▸ hquiet) (hnmi.trans hn), hmaster, hrequests, countDown_eq]
  rfl

/-- A step whose processor slot is the CPU's and free is the fetch and the execution of an instruction, between
the picture processor's clock and the end of the tick (`64` R631, `40` R130). -/
theorem step_executes (hslot : s.master % 3 = 0) (hdma : s.dma.active = false) (hjam : s.jammed = false)
    (hcycles : s.cycles = 0) {i : Instr} (hfetch : fetch (ppuTick s) = (i, t)) :
    step s = andThen (exec i t) (fun u => tickEnd (countDown u)) := by
  calc step s
    _ = andThen (clock (ppuTick s)) tickEnd := by
      rw [step, tick, tickBody_eq, if_pos hslot, processorSlot_cpu (ppuTick s) _ hdma]
    _ = andThen (andThen (exec i t) (fun u => .next (countDown u))) tickEnd := by
      rw [clock_executes (ppuTick s) hjam hcycles, hfetch]
    _ = _ := by cases exec i t <;> rfl

/-- Settles O5: the code at `PC` is untouched by the picture processor's clock, its fetch moves `PC` alone, and
what the instruction does cannot reach the end of the tick. -/
theorem stepRunsTheDecodedInstruction : Obligations.StepRunsTheDecodedInstruction := by
  intro s i rest hslot hdma hjam hcycles hquiet hdecode hplain
  obtain ⟨hrequests, hnmi⟩ := hquiet
  obtain ⟨hwf, hcode⟩ := codeAt_of_decode hdecode hplain
  have hfetch := fetch_of_codeAt (s := ppuTick s) hwf (hcode.congr rfl rfl)
  rw [step_executes hslot hdma hjam hcycles hfetch, ppuTick_pc]
  obtain ⟨t, ht, -⟩ := everyInstructionCompletes i ((ppuTick s).setPc (s.pc + word (encode i).length))
  rw [ht, andThen_next, andThen_next, tickEnd_countDown ht hrequests hnmi, State.setPc_master, ppuTick_master,
    State.setPc_requests, ppuTick_requests]

end Sys2Proof.Machine

/-! ## Loads, stores and transfers

A reading form runs its body on its operand and on the machine after the read, and a storing form is one bus write
at its address; the rules' status byte is the model's once the always-set flag is 1 (`40` R134, R139, R153). -/

namespace Sys2Proof.Machine

open Rule

variable {s : State}

/-! ### The status at the end of an instruction -/

/-- An instruction that writes no flag. -/
theorem done_sameFlags {u : State} (hp : u.p = s.p) (n : Nat) :
    done u n = .next { u with p := sameFlags s, cycles := n } := by
  rw [done, hp, sameFlags_eq]

/-- An instruction whose last act is `SetZN(v)`. -/
theorem done_setZN {u : State} (hp : u.p = s.p) (v : Byte) (n : Nat) :
    done (u.setZN v) n = .next { u with p := flagsZN s v, cycles := n } := by
  rw [← flagsZN_eq, ← hp]; rfl

/-! ### Reading forms -/

/-- The form has its opcode, and executes `body` on its operand and on the machine after the read, in its cycles;
the read leaves the status alone. -/
structure RunsBody (s : State) (body : Byte → State → State) (f : Reading) : Prop where
  opcode  : (encode f.instr).head? = some f.opcode
  exec    : exec f.instr s = done (body f.operand f.after) f.cycles
  after_p : f.after.p = s.p

section

variable {i : Instr} {op : Byte} {body : Byte → State → State} {e : Ea} {ea n : Nat}

theorem runsBody_immediate {m : Byte} (hop : (encode i).head? = some op) (hi : exec i s = immOp 2 body m s) :
    RunsBody s body (immediate i op m s) :=
  ⟨hop, hi.trans (immOp_eq s 2 body m), rfl⟩

/-- The modes that never add a cycle. -/
theorem runsBody_plain (hop : (encode i).head? = some op) (hi : exec i s = readOp n true body e)
    (he : e = { addr := word ea, af := false, st := s }) : RunsBody s body (reading i op s ea n) :=
  ⟨hop, by subst he; exact hi.trans (readOp_plain s n true body (word ea)), busEffect_p s (word ea)⟩

/-- The modes that add a cycle when the indexed address leaves the page of `k` (`40` R133, R153). -/
theorem runsBody_paged {k : Nat} (hop : (encode i).head? = some op) (hi : exec i s = readOp n true body e)
    (he : e = { addr := word ea, af := decide (otherPage ea k = 1), st := s }) :
    RunsBody s body (reading i op s ea (n + otherPage ea k)) :=
  ⟨hop, by subst he; exact hi.trans (readOp_paged s n ea k body (word ea)), busEffect_p s (word ea)⟩

end

section

variable (s) (m zp : Byte) (w : Addr)

theorem runsBody_of_mem_ldaForms : ∀ f ∈ ldaForms m zp w s, RunsBody s loadA f := by
  simp only [ldaForms, List.forall_mem_cons, List.not_mem_nil, false_implies, implies_true, and_true]
  exact ⟨runsBody_immediate rfl rfl, runsBody_plain rfl rfl (eaZp0_eq s zp),
    runsBody_plain rfl rfl (eaZpx_eq s zp), runsBody_plain rfl rfl (eaAbs_eq s w),
    runsBody_paged rfl rfl (eaAbx_eq s w), runsBody_paged rfl rfl (eaAby_eq s w),
    runsBody_plain rfl rfl (eaIzx_eq s zp), runsBody_paged rfl rfl (eaIzy_eq s zp)⟩

theorem runsBody_of_mem_ldxForms : ∀ f ∈ ldxForms m zp w s, RunsBody s loadX f := by
  simp only [ldxForms, List.forall_mem_cons, List.not_mem_nil, false_implies, implies_true, and_true]
  exact ⟨runsBody_immediate rfl rfl, runsBody_plain rfl rfl (eaZp0_eq s zp),
    runsBody_plain rfl rfl (eaZpy_eq s zp), runsBody_plain rfl rfl (eaAbs_eq s w),
    runsBody_paged rfl rfl (eaAby_eq s w)⟩

theorem runsBody_of_mem_ldyForms : ∀ f ∈ ldyForms m zp w s, RunsBody s loadY f := by
  simp only [ldyForms, List.forall_mem_cons, List.not_mem_nil, false_implies, implies_true, and_true]
  exact ⟨runsBody_immediate rfl rfl, runsBody_plain rfl rfl (eaZp0_eq s zp),
    runsBody_plain rfl rfl (eaZpx_eq s zp), runsBody_plain rfl rfl (eaAbs_eq s w),
    runsBody_paged rfl rfl (eaAbx_eq s w)⟩

theorem runsBody_of_mem_laxForms : ∀ f ∈ laxForms zp w s, RunsBody s loadAX f := by
  simp only [laxForms, List.forall_mem_cons, List.not_mem_nil, false_implies, implies_true, and_true]
  exact ⟨runsBody_plain rfl rfl (eaZp0_eq s zp), runsBody_plain rfl rfl (eaZpy_eq s zp),
    runsBody_plain rfl rfl (eaAbs_eq s w), runsBody_paged rfl rfl (eaAby_eq s w),
    runsBody_plain rfl rfl (eaIzx_eq s zp), runsBody_paged rfl rfl (eaIzy_eq s zp)⟩

end

/-- A form that runs a load ends in the loaded registers, with Z and N from the operand: `u` is the machine after
the read with those registers written. -/
theorem RunsBody.exec_load {body : Byte → State → State} {f : Reading} {u : State} (h : RunsBody s body f)
    (hbody : body f.operand f.after = u.setZN f.operand) (hu : u.p = f.after.p) :
    (encode f.instr).head? = some f.opcode ∧
      Machine.exec f.instr s = .next { u with p := flagsZN s f.operand, cycles := f.cycles } :=
  ⟨h.opcode, by rw [h.exec, hbody, done_setZN (hu.trans h.after_p)]⟩

/-! ### Storing forms -/

/-- The form has its opcode, and is one bus write of `value` at its address, in its cycles; it reads nothing and
writes no flag. -/
structure WritesOnce (s : State) (value : State → Byte) (f : Storing) : Prop where
  opcode : (encode f.instr).head? = some f.opcode
  exec   : exec f.instr s =
    .next { memWrite s (word f.ea) (value s) with p := sameFlags s, cycles := f.cycles }

/-- A form with the storing shape pays no extra cycle, whatever its resolver says (`40` R153). -/
theorem writesOnce_of_storeOp {f : Storing} {value : State → Byte} {e : Ea}
    (hop : (encode f.instr).head? = some f.opcode) (hi : exec f.instr s = storeOp f.cycles value e)
    (he : Resolves s f.ea e) : WritesOnce s value f := by
  obtain ⟨adr, af, st⟩ := e
  obtain ⟨hadr, rfl⟩ := he
  refine ⟨hop, ?_⟩
  rw [hi, storeOp_eq, done_sameFlags (memWrite_p _ _ _), ← hadr, word_toNat]

theorem writesOnce_of_mem_forms (s : State) (zp : Byte) (w : Addr) :
    (∀ f ∈ staForms zp w s, WritesOnce s valueA f) ∧ (∀ f ∈ stxForms zp w s, WritesOnce s valueX f)
    ∧ (∀ f ∈ styForms zp w s, WritesOnce s valueY f) ∧ (∀ f ∈ saxForms zp w s, WritesOnce s valueAX f) := by
  simp only [staForms, stxForms, styForms, saxForms, List.forall_mem_cons, List.not_mem_nil, false_implies,
    implies_true, and_true]
  and_intros
  all_goals exact writesOnce_of_storeOp rfl rfl (by simp)

/-! ### The obligations on loads, stores and transfers -/

/-- Settles O9: every form runs the load's body on its operand, and each body writes its registers and then
`SetZN`. -/
theorem loadsTakeTheOperand : Obligations.LoadsTakeTheOperand := fun s m zp w =>
  ⟨fun f hf => (runsBody_of_mem_ldaForms s m zp w f hf).exec_load (u := f.after.setA f.operand) rfl rfl,
   fun f hf => (runsBody_of_mem_ldxForms s m zp w f hf).exec_load (u := f.after.setX f.operand) rfl rfl,
   fun f hf => (runsBody_of_mem_ldyForms s m zp w f hf).exec_load (u := f.after.setY f.operand) rfl rfl,
   fun f hf => (runsBody_of_mem_laxForms s zp w f hf).exec_load
     (u := (f.after.setA f.operand).setX f.operand) rfl rfl⟩

/-- Settles O10: every form has the storing shape, and its resolver leaves the machine as it was. -/
theorem storesWriteOnce : Obligations.StoresWriteOnce := by
  intro s zp w
  obtain ⟨hsta, hstx, hsty, hsax⟩ := writesOnce_of_mem_forms s zp w
  exact ⟨fun f hf => ⟨(hsta f hf).opcode, (hsta f hf).exec⟩, fun f hf => ⟨(hstx f hf).opcode, (hstx f hf).exec⟩,
    fun f hf => ⟨(hsty f hf).opcode, (hsty f hf).exec⟩, fun f hf => ⟨(hsax f hf).opcode, (hsax f hf).exec⟩⟩

/-- Settles O13: each body is one register write and, but for TXS, `SetZN` of the value written; a count is a sum
modulo 256. -/
theorem registerInstructions : Obligations.RegisterInstructions := by
  intro s
  rw [← byte_succ_eq, ← byte_succ_eq, ← byte_pred_eq, ← byte_pred_eq]
  exact
    ⟨done_setZN (u := s.setX s.a) rfl s.a 2,
     done_setZN (u := s.setY s.a) rfl s.a 2,
     done_setZN (u := s.setA s.x) rfl s.x 2,
     done_setZN (u := s.setA s.y) rfl s.y 2,
     done_setZN (u := s.setX s.sp) rfl s.sp 2,
     done_sameFlags (u := s.setSp s.x) rfl 2,
     done_setZN (u := s.setX (s.x + 1)) rfl (s.x + 1) 2,
     done_setZN (u := s.setY (s.y + 1)) rfl (s.y + 1) 2,
     done_setZN (u := s.setX (s.x - 1)) rfl (s.x - 1) 2,
     done_setZN (u := s.setY (s.y - 1)) rfl (s.y - 1) 2,
     rfl⟩

end Sys2Proof.Machine

/-! ## Arithmetic and logic

A reading form runs its body on its operand and on a machine with the registers of the start; the rules' result and
status are those of the body (`42` R200 to R216, `46` R328, R329, R331). -/

namespace Sys2Proof.Machine

open Rule

variable {s : State}

/-! ### Reading forms -/

/-- The form runs `body` on its operand, and the read before it leaves A, X, Y and the status alone. -/
structure Operates (s : State) (body : Byte → State → State) (f : Reading) : Prop
    extends RunsBody s body f where
  after_a : f.after.a = s.a
  after_x : f.after.x = s.x
  after_y : f.after.y = s.y

section

variable {i : Instr} {op : Byte} {body : Byte → State → State} {e : Ea} {ea n c : Nat} {xf : Bool}

theorem operates_immediate {m : Byte} (hop : (encode i).head? = some op) (hi : exec i s = immOp 2 body m s) :
    Operates s body (immediate i op m s) :=
  ⟨runsBody_immediate hop hi, rfl, rfl, rfl⟩

/-- A form that reads memory takes a cycle more when its resolver and the instruction both ask for it (`40`
R133). -/
theorem operates_reading (hop : (encode i).head? = some op) (hi : exec i s = readOp n xf body e)
    (he : Resolves s ea e) (hc : n + (e.af && xf).toNat = c) : Operates s body (reading i op s ea c) := by
  obtain ⟨adr, af, st⟩ := e
  obtain ⟨rfl, rfl⟩ := he
  subst hc
  refine ⟨⟨hop, ?_, busEffect_p _ _⟩, busEffect_a _ _, busEffect_x _ _, busEffect_y _ _⟩
  dsimp only [reading]
  rw [word_toNat]
  exact hi

end

/-! Which resolvers ask for a cycle: those that index an address, when they leave its page (`40` R148, R149, R152). -/

section

variable (s) (m zp : Byte) (w : Addr)

@[simp] theorem eaZp0_af : (eaZp0 zp s).af = false := rfl
@[simp] theorem eaZpx_af : (eaZpx zp s).af = false := rfl
@[simp] theorem eaAbs_af : (eaAbs w s).af = false := rfl
@[simp] theorem eaIzx_af : (eaIzx zp s).af = false := rfl
@[simp] theorem eaAbx_af : (eaAbx w s).af = decide (otherPage (abx w s) w.toNat = 1) := by rw [eaAbx_eq]
@[simp] theorem eaAby_af : (eaAby w s).af = decide (otherPage (aby w s) w.toNat = 1) := by rw [eaAby_eq]
@[simp] theorem eaIzy_af :
    (eaIzy zp s).af = decide (otherPage (izy zp s) (pageZeroWord zp.toNat s) = 1) := by rw [eaIzy_eq]

@[simp] theorem toNat_otherPage (k n : Nat) : (decide (otherPage k n = 1)).toNat = otherPage k n := by
  rw [← Bool.and_true (decide _), af_toNat]

/-- Every form of the arithmetic and logic instructions runs its instruction's body: the immediate ones on the byte
fetched, the others on the byte at their address. -/
theorem operates_of_mem_forms :
    (∀ f ∈ adcForms m zp w s, Operates s addWithCarry f) ∧ (∀ f ∈ sbcForms m zp w s, Operates s subtract f)
    ∧ (∀ f ∈ andForms m zp w s, Operates s andA f) ∧ (∀ f ∈ oraForms m zp w s, Operates s orA f)
    ∧ (∀ f ∈ eorForms m zp w s, Operates s eorA f) ∧ (∀ f ∈ cmpForms m zp w s, Operates s compareA f)
    ∧ (∀ f ∈ cpxForms m zp w s, Operates s compareX f) ∧ (∀ f ∈ cpyForms m zp w s, Operates s compareY f)
    ∧ (∀ f ∈ bitForms zp w s, Operates s bitTest f) := by
  simp only [adcForms, sbcForms, andForms, oraForms, eorForms, cmpForms, cpxForms, cpyForms, bitForms,
    List.forall_mem_cons, List.not_mem_nil, false_implies, implies_true, and_true]
  and_intros
  any_goals exact operates_immediate rfl rfl
  all_goals exact operates_reading rfl rfl (by simp) (by simp)

end

/-! ### The bodies at the end of an instruction -/

section

variable {r : State}

/-- SBC on a machine whose accumulator and status are those of `s` (`42` R201). -/
theorem done_subtract (hp : r.p = s.p) (ha : r.a = s.a) (m : Byte) (n : Nat) :
    done (subtract m r) n =
      .next { r with
        a := sbcByte s.a m (carry s),
        p := flagsVCZN s (sbcOver s.a m (carry s)) (sbcCarry s.a m (carry s)) (sbcByte s.a m (carry s)),
        cycles := n } := by
  obtain ⟨hbyte, hcarry, hover⟩ := adc_compl s.a m (carry s) (carry_le s)
  rw [subtract, done_addWithCarry s r _ n hp ha, hbyte, hcarry, hover]

/-- A result in the accumulator, with its flags (`42` R202 to R204). -/
theorem done_resultA (hp : r.p = s.p) (v : Byte) (n : Nat) :
    done (resultA v r) n = .next { r with a := v, p := flagsZN s v, cycles := n } :=
  done_setZN (u := r.setA v) hp v n

/-- A carry, then a result in the accumulator, with its flags (`46` R328). -/
theorem done_resultA_carry (c : Bool) (v : Byte) (n : Nat) :
    done (resultA v (s.setFlagTo .c c)) n = .next { s with a := v, p := flagsCZN s c v, cycles := n } := by
  rw [← flagsCZN_eq]; rfl

/-- The carry of ANC may be set before its result, for `SetZN` writes other flags (`46` R329). -/
theorem andCarryA_eq (m : Byte) :
    andCarryA m s = resultA (s.a &&& m) (s.setFlagTo .c ((s.a &&& m).getLsbD 7)) := by
  have hp (p v : Byte) (c : Bool) : setFlag (setZN v p) .c c = setZN v (setFlag p .c c) := by
    unfold setZN
    rw [setFlag_comm _ .n .c _ _ (by decide), setFlag_comm _ .z .c _ _ (by decide)]
  exact congrArg (s.setA (s.a &&& m)).setP (hp s.p _ _)

/-- `BIT` on a machine whose accumulator and status are those of `s` (`42` R208). -/
theorem done_bitTest (hp : r.p = s.p) (ha : r.a = s.a) (m : Byte) (n : Nat) :
    done (bitTest m r) n =
      .next { r with
        p := statusByte (decide (128 ≤ m.toNat)) (decide (m.toNat / 64 % 2 = 1)) (s.flag .b) (s.flag .d)
              (s.flag .i) (decide ((s.a &&& m).toNat = 0)) (s.flag .c),
        cycles := n } := by
  apply done_congr <;> try rfl
  unfold bitTest
  rw [ha, hp, beq_zero_eq, getLsbD_seven, getLsbD_eq_div m 6]
  apply statusByte_eq <;> simp [State.flag, getFlag_setFlag]

end

section

variable {f : Reading} {body : Byte → State → State}

/-- A form whose body writes the result `v` to the accumulator. -/
theorem Operates.exec_resultA (h : Operates s body f) {v : Byte}
    (hbody : f.after.a = s.a → body f.operand f.after = resultA v f.after) :
    (encode f.instr).head? = some f.opcode ∧
      Machine.exec f.instr s = .next { f.after with a := v, p := flagsZN s v, cycles := f.cycles } :=
  ⟨h.opcode, by rw [h.exec, hbody h.after_a, done_resultA h.after_p]⟩

/-- A form whose body compares `x` with the operand. -/
theorem Operates.exec_compare (h : Operates s body f) {x : Byte}
    (hbody : body f.operand f.after = f.after.setP (compareFlags x f.operand f.after.p)) :
    (encode f.instr).head? = some f.opcode ∧
      Machine.exec f.instr s = .next { f.after with p := flagsCompare s x f.operand, cycles := f.cycles } :=
  ⟨h.opcode, by rw [h.exec, hbody, done_compare s _ _ _ _ h.after_p]⟩

end

/-! ### Read, modify, write -/

/-- A form that reads a byte, writes its count to the same address and sets Z and N from it: `count` is the byte
written as a function of the byte read (`42` R209, R210). -/
structure CountsMemory (s : State) (count : Byte → Byte) (f : Storing) : Prop where
  opcode : (encode f.instr).head? = some f.opcode
  exec   : exec f.instr s =
    .next { f.written s (count (f.old s)) with p := flagsZN s (count (f.old s)), cycles := f.cycles }

theorem countsMemory_of_rmwOp {f : Storing} {result : Byte → Bool → Byte} {count : Byte → Byte} {e : Ea}
    (hop : (encode f.instr).head? = some f.opcode) (hi : exec f.instr s = rmwOp f.cycles result afterCount e)
    (he : Resolves s f.ea e) (hcount : ∀ m c, result m c = count m) : CountsMemory s count f := by
  obtain ⟨adr, af, st⟩ := e
  obtain ⟨hadr, rfl⟩ := he
  refine ⟨hop, ?_⟩
  rw [hi, rmwOp_eq, hcount, afterCount, done_setZN (s := st) (by simp), Storing.written, Storing.old, ← hadr,
    word_toNat]

/-! ### The obligations on arithmetic and logic -/

/-- Settles O14: every form ends in `AddWithCarry` of its operand. -/
theorem adcAddsWithCarry : Obligations.AdcAddsWithCarry := by
  intro s m zp w f hf
  have h := (operates_of_mem_forms s m zp w).1 f hf
  exact ⟨h.opcode, h.exec.trans (done_addWithCarry s f.after f.operand f.cycles h.after_p h.after_a)⟩

/-- Settles O15: every form ends in `AddWithCarry` of its operand's complement. -/
theorem sbcSubtractsWithBorrow : Obligations.SbcSubtractsWithBorrow := by
  intro s m zp w f hf
  obtain ⟨-, hsbc, -⟩ := operates_of_mem_forms s m zp w
  have h := hsbc f hf
  exact ⟨h.opcode, h.exec.trans (done_subtract h.after_p h.after_a f.operand f.cycles)⟩

/-- Taking `m` and the complemented carry from the sum of `A`, `m` and the carry leaves `A` (`42` R218). -/
theorem sbcByte_adcByte (a m : Byte) {c : Nat} (hc : c ≤ 1) : sbcByte (adcByte a m c) m (1 - c) = a := by
  apply BitVec.eq_of_toNat_eq
  have ha := a.isLt
  rw [sbcByte, adcByte, BitVec.toNat_ofInt, BitVec.toNat_ofNat]
  omega

/-- Settles O16: ADC and SBC are sums modulo 256, and the two carries are complements. -/
theorem sbcUndoesAdc : Obligations.SbcUndoesAdc := by
  intro s m
  refine ⟨_, _, done_addWithCarry s s m 2 rfl rfl, done_subtract rfl rfl m 2, ?_⟩
  have hcarry (t : State) : carry (t.setFlagTo .c (!s.flag .c)) = 1 - carry s := by
    unfold carry State.flag
    cases getFlag s.p .c <;> simp
  show sbcByte _ m _ = s.a
  rw [hcarry]
  exact sbcByte_adcByte s.a m (carry_le s)

/-- Settles O17: each body is a result written to the accumulator with `SetZN`; ALR and ANC write the carry too. -/
theorem logicOnA : Obligations.LogicOnA := by
  intro s m zp w
  obtain ⟨-, -, hand, hora, heor, -⟩ := operates_of_mem_forms s m zp w
  have halr : exec (.alrImm m) s = done (andShiftA m s) 2 := rfl
  have hanc : ∀ i ∈ [Instr.anc0B m, .anc2B m], exec i s = done (andCarryA m s) 2 := by
    simp only [List.forall_mem_cons, List.not_mem_nil, false_implies, implies_true, and_true]
    exact ⟨rfl, rfl⟩
  refine ⟨fun f hf => (hand f hf).exec_resultA fun ha => by rw [andA, ha],
    fun f hf => (hora f hf).exec_resultA fun ha => by rw [orA, ha],
    fun f hf => (heor f hf).exec_resultA fun ha => by rw [eorA, ha], ?_, fun i hi => ?_, rfl⟩
  · rw [halr, andShiftA, done_resultA_carry, bit0_eq, ← lsrResult_eq, lsrResult]
  · rw [hanc i hi, andCarryA_eq, done_resultA_carry, bit7_eq]

/-- Settles O18: each body writes `Compare` of its register and the operand to the status. -/
theorem comparesSetThreeFlags : Obligations.ComparesSetThreeFlags := by
  intro s m zp w
  obtain ⟨-, -, -, -, -, hcmp, hcpx, hcpy, -⟩ := operates_of_mem_forms s m zp w
  exact ⟨fun f hf => (hcmp f hf).exec_compare (by rw [compareA, (hcmp f hf).after_a]),
    fun f hf => (hcpx f hf).exec_compare (by rw [compareX, (hcpx f hf).after_x]),
    fun f hf => (hcpy f hf).exec_compare (by rw [compareY, (hcpy f hf).after_y])⟩

/-- Settles O19: both forms end in the bit test of their operand. -/
theorem bitTestsTheOperand : Obligations.BitTestsTheOperand := by
  intro s zp w f hf
  obtain ⟨-, -, -, -, -, -, -, -, hbit⟩ := operates_of_mem_forms s 0 zp w
  have h := hbit f hf
  exact ⟨h.opcode, h.exec.trans (done_bitTest h.after_p h.after_a f.operand f.cycles)⟩

/-- Settles O20: every form reads, counts and writes one byte; a count is a sum modulo 256. -/
theorem incAndDecMemory : Obligations.IncAndDecMemory := by
  intro s zp w
  have hinc : ∀ f ∈ incForms zp w s, CountsMemory s (fun m => BitVec.ofNat 8 (m.toNat + 1)) f := by
    simp only [incForms, List.forall_mem_cons, List.not_mem_nil, false_implies, implies_true, and_true]
    and_intros
    all_goals exact countsMemory_of_rmwOp rfl rfl (by simp) fun m _ => byte_succ_eq m
  have hdec : ∀ f ∈ decForms zp w s, CountsMemory s (fun m => BitVec.ofNat 8 (m.toNat + 255)) f := by
    simp only [decForms, List.forall_mem_cons, List.not_mem_nil, false_implies, implies_true, and_true]
    and_intros
    all_goals exact countsMemory_of_rmwOp rfl rfl (by simp) fun m _ => byte_pred_eq m
  exact ⟨fun f hf => ⟨(hinc f hf).opcode, (hinc f hf).exec⟩, fun f hf => ⟨(hdec f hf).opcode, (hdec f hf).exec⟩⟩

end Sys2Proof.Machine

/-! ## The decimal flag

No operation of the CPU reads the decimal flag, so each goes the same way from two states that differ in it alone:
running it commutes with writing the flag (`42` R217). The exceptions write the flag themselves, or push the status
byte. -/

namespace Sys2Proof.Machine

open Rule

section

variable (s : State) (b : Bool)

/-! ### Registers and flags -/

@[simp] theorem setA_decimal (v : Byte) : (s.setFlagTo .d b).setA v = (s.setA v).setFlagTo .d b := rfl
@[simp] theorem setX_decimal (v : Byte) : (s.setFlagTo .d b).setX v = (s.setX v).setFlagTo .d b := rfl
@[simp] theorem setY_decimal (v : Byte) : (s.setFlagTo .d b).setY v = (s.setY v).setFlagTo .d b := rfl
@[simp] theorem setSp_decimal (v : Byte) : (s.setFlagTo .d b).setSp v = (s.setSp v).setFlagTo .d b := rfl
@[simp] theorem setPc_decimal (v : Addr) : (s.setFlagTo .d b).setPc v = (s.setPc v).setFlagTo .d b := rfl
@[simp] theorem setRam_decimal (m : Memory) : (s.setFlagTo .d b).setRam m = (s.setRam m).setFlagTo .d b := rfl
@[simp] theorem setCycles_decimal (n : Nat) :
    (s.setFlagTo .d b).setCycles n = (s.setCycles n).setFlagTo .d b := rfl

/-- A status written replaces any flag written before. -/
@[simp] theorem setP_setFlagTo (f : StatusFlag) (q : Byte) : (s.setFlagTo f b).setP q = s.setP q := rfl

/-- A decimal flag inside a status written is one written after it. -/
@[simp] theorem setP_decimal (q : Byte) : s.setP (setFlag q .d b) = (s.setP q).setFlagTo .d b := rfl

section

variable {f : StatusFlag} (hf : f ≠ .d) (v : Bool)
include hf

@[simp] theorem setFlag_decimal (p : Byte) : setFlag (setFlag p .d b) f v = setFlag (setFlag p f v) .d b :=
  setFlag_comm p .d f b v hf.symm

@[simp] theorem setFlagTo_decimal :
    (s.setFlagTo .d b).setFlagTo f v = (s.setFlagTo f v).setFlagTo .d b :=
  congrArg s.setP (setFlag_decimal b hf v s.p)

@[simp] theorem flag_decimal : (s.setFlagTo .d b).flag f = s.flag f :=
  getFlag_setFlag_other s.p .d f b hf.symm

end

@[simp] theorem setZN_decimal (v : Byte) : (s.setFlagTo .d b).setZN v = (s.setZN v).setFlagTo .d b := by
  simp [State.setZN, Machine.setZN]

@[simp] theorem compareFlags_decimal (r m p : Byte) :
    compareFlags r m (setFlag p .d b) = setFlag (compareFlags r m p) .d b := by
  simp [compareFlags]

/-! ### The bus -/

@[simp] theorem busValue_decimal (adr : Addr) : busValue (s.setFlagTo .d b) adr = busValue s adr := rfl

theorem ppuRegReadEffect_decimal (n : BitVec 3) :
    ppuRegReadEffect (s.setFlagTo .d b) n = (ppuRegReadEffect s n).setFlagTo .d b := by
  unfold ppuRegReadEffect
  split
  · rfl
  split
  · rfl
  · rfl

@[simp] theorem busEffect_decimal (adr : Addr) :
    busEffect (s.setFlagTo .d b) adr = (busEffect s adr).setFlagTo .d b := by
  unfold busEffect
  split
  · rfl
  split
  · exact ppuRegReadEffect_decimal s b _
  split
  · rfl
  · rfl

theorem ppuWrite_decimal (adr : BitVec 14) (v : Byte) :
    ppuWrite (s.setFlagTo .d b) adr v = (ppuWrite s adr v).setFlagTo .d b := by
  unfold ppuWrite
  simp only [apply_ite (State.setFlagTo · .d b)]
  rfl

theorem ppuRegWrite_decimal (n : BitVec 3) (v : Byte) :
    ppuRegWrite (s.setFlagTo .d b) n v = (ppuRegWrite s n v).setFlagTo .d b := by
  unfold ppuRegWrite
  iterate 7
    split
    · rfl
  unfold dataWrite
  dsimp only [State.setFlagTo_ppu]
  rw [ppuWrite_decimal]
  rfl

@[simp] theorem memWrite_decimal (adr : Addr) (v : Byte) :
    memWrite (s.setFlagTo .d b) adr v = (memWrite s adr v).setFlagTo .d b := by
  unfold memWrite
  split
  · rfl
  split
  · exact ppuRegWrite_decimal s b _ v
  split
  · rfl
  split
  · rfl
  · rfl

/-! ### The addressing modes -/

/-- A resolved address on the machine with the decimal flag written. -/
def Ea.setDecimal (e : Ea) (b : Bool) : Ea := { e with st := e.st.setFlagTo .d b }

variable (zp : Byte) (w : Addr)

@[simp] theorem eaZp0_decimal : eaZp0 zp (s.setFlagTo .d b) = (eaZp0 zp s).setDecimal b := rfl
@[simp] theorem eaZpx_decimal : eaZpx zp (s.setFlagTo .d b) = (eaZpx zp s).setDecimal b := rfl
@[simp] theorem eaZpy_decimal : eaZpy zp (s.setFlagTo .d b) = (eaZpy zp s).setDecimal b := rfl
@[simp] theorem eaAbs_decimal : eaAbs w (s.setFlagTo .d b) = (eaAbs w s).setDecimal b := rfl
@[simp] theorem eaAbx_decimal : eaAbx w (s.setFlagTo .d b) = (eaAbx w s).setDecimal b := rfl
@[simp] theorem eaAby_decimal : eaAby w (s.setFlagTo .d b) = (eaAby w s).setDecimal b := rfl
@[simp] theorem eaIzx_decimal : eaIzx zp (s.setFlagTo .d b) = (eaIzx zp s).setDecimal b := by
  rw [eaIzx_eq, eaIzx_eq]; rfl
@[simp] theorem eaIzy_decimal : eaIzy zp (s.setFlagTo .d b) = (eaIzy zp s).setDecimal b := by
  rw [eaIzy_eq, eaIzy_eq]; rfl
@[simp] theorem eaInd_decimal : eaInd w (s.setFlagTo .d b) = (eaInd w s).setDecimal b := by
  simp [eaInd, memRead, Ea.setDecimal]

end

/-! ### The bodies of the instructions -/

/-- A body that neither reads nor writes the decimal flag. -/
def IgnoresDecimal (body : State → State) : Prop := ∀ s b, body (s.setFlagTo .d b) = (body s).setFlagTo .d b

section

variable (m v : Byte) (w : Addr)

theorem IgnoresDecimal.comp {f g : State → State} (hg : IgnoresDecimal g) (hf : IgnoresDecimal f) :
    IgnoresDecimal (fun s => g (f s)) :=
  fun s b => (congrArg g (hf s b)).trans (hg (f s) b)

theorem ignoresDecimal_setFlagTo {f : StatusFlag} (hf : f ≠ .d) (c : Bool) :
    IgnoresDecimal (·.setFlagTo f c) :=
  fun s b => setFlagTo_decimal s b hf c

@[simp] theorem ignoresDecimal_id : IgnoresDecimal (fun s => s) := fun _ _ => rfl

@[simp] theorem ignoresDecimal_loadA : IgnoresDecimal (loadA m) := fun s b => by simp [loadA]
@[simp] theorem ignoresDecimal_loadX : IgnoresDecimal (loadX m) := fun s b => by simp [loadX]
@[simp] theorem ignoresDecimal_loadY : IgnoresDecimal (loadY m) := fun s b => by simp [loadY]
@[simp] theorem ignoresDecimal_loadAX : IgnoresDecimal (loadAX m) := fun s b => by simp [loadAX]
@[simp] theorem ignoresDecimal_taxBody : IgnoresDecimal taxBody := fun s b => ignoresDecimal_loadX s.a s b
@[simp] theorem ignoresDecimal_tayBody : IgnoresDecimal tayBody := fun s b => ignoresDecimal_loadY s.a s b
@[simp] theorem ignoresDecimal_txaBody : IgnoresDecimal txaBody := fun s b => ignoresDecimal_loadA s.x s b
@[simp] theorem ignoresDecimal_tyaBody : IgnoresDecimal tyaBody := fun s b => ignoresDecimal_loadA s.y s b
@[simp] theorem ignoresDecimal_tsxBody : IgnoresDecimal tsxBody := fun s b => ignoresDecimal_loadX s.sp s b
@[simp] theorem ignoresDecimal_txsBody : IgnoresDecimal txsBody := fun _ _ => rfl
@[simp] theorem ignoresDecimal_inxBody : IgnoresDecimal inxBody := fun s b => ignoresDecimal_loadX (s.x + 1) s b
@[simp] theorem ignoresDecimal_inyBody : IgnoresDecimal inyBody := fun s b => ignoresDecimal_loadY (s.y + 1) s b
@[simp] theorem ignoresDecimal_dexBody : IgnoresDecimal dexBody := fun s b => ignoresDecimal_loadX (s.x - 1) s b
@[simp] theorem ignoresDecimal_deyBody : IgnoresDecimal deyBody := fun s b => ignoresDecimal_loadY (s.y - 1) s b

@[simp] theorem ignoresDecimal_addWithCarry : IgnoresDecimal (addWithCarry m) :=
  fun s b => by simp [addWithCarry]
@[simp] theorem ignoresDecimal_subtract : IgnoresDecimal (subtract m) := ignoresDecimal_addWithCarry _
@[simp] theorem ignoresDecimal_andA : IgnoresDecimal (andA m) := fun s b => ignoresDecimal_loadA (s.a &&& m) s b
@[simp] theorem ignoresDecimal_orA : IgnoresDecimal (orA m) := fun s b => ignoresDecimal_loadA (s.a ||| m) s b
@[simp] theorem ignoresDecimal_eorA : IgnoresDecimal (eorA m) := fun s b => ignoresDecimal_loadA (s.a ^^^ m) s b
@[simp] theorem ignoresDecimal_compareA : IgnoresDecimal (compareA m) := fun s b => by simp [compareA]
@[simp] theorem ignoresDecimal_compareX : IgnoresDecimal (compareX m) := fun s b => by simp [compareX]
@[simp] theorem ignoresDecimal_compareY : IgnoresDecimal (compareY m) := fun s b => by simp [compareY]
@[simp] theorem ignoresDecimal_bitTest : IgnoresDecimal (bitTest m) := fun s b => by simp [bitTest]
@[simp] theorem ignoresDecimal_andShiftA : IgnoresDecimal (andShiftA m) :=
  fun s b => by simp [andShiftA, resultA]
@[simp] theorem ignoresDecimal_andCarryA : IgnoresDecimal (andCarryA m) :=
  fun s b => by simp [andCarryA, ignoresDecimal_andA m s b]

@[simp] theorem ignoresDecimal_afterCount : IgnoresDecimal (afterCount m v) := fun s b => setZN_decimal s b v
@[simp] theorem ignoresDecimal_afterLeft : IgnoresDecimal (afterLeft m v) :=
  (ignoresDecimal_afterCount m v).comp (ignoresDecimal_setFlagTo (by decide) _)
@[simp] theorem ignoresDecimal_afterRight : IgnoresDecimal (afterRight m v) :=
  (ignoresDecimal_afterCount m v).comp (ignoresDecimal_setFlagTo (by decide) _)
@[simp] theorem ignoresDecimal_afterDcp : IgnoresDecimal (afterDcp m v) := ignoresDecimal_compareA v
@[simp] theorem ignoresDecimal_afterIsc : IgnoresDecimal (afterIsc m v) := ignoresDecimal_subtract v
@[simp] theorem ignoresDecimal_afterSlo : IgnoresDecimal (afterSlo m v) :=
  (ignoresDecimal_orA v).comp (ignoresDecimal_setFlagTo (by decide) _)
@[simp] theorem ignoresDecimal_afterRla : IgnoresDecimal (afterRla m v) :=
  (ignoresDecimal_andA v).comp (ignoresDecimal_setFlagTo (by decide) _)
@[simp] theorem ignoresDecimal_afterSre : IgnoresDecimal (afterSre m v) :=
  (ignoresDecimal_eorA v).comp (ignoresDecimal_setFlagTo (by decide) _)
@[simp] theorem ignoresDecimal_afterRra : IgnoresDecimal (afterRra m v) :=
  (ignoresDecimal_addWithCarry v).comp (ignoresDecimal_setFlagTo (by decide) _)

@[simp] theorem ignoresDecimal_phaBody : IgnoresDecimal phaBody := fun s b => by simp [phaBody, push_eq]
@[simp] theorem ignoresDecimal_plaBody : IgnoresDecimal plaBody := fun s b => by simp [plaBody, pull_eq]
@[simp] theorem ignoresDecimal_jsrBody : IgnoresDecimal (jsrBody w) :=
  fun s b => by simp [jsrBody, pushWord_eq]
@[simp] theorem ignoresDecimal_rtsBody : IgnoresDecimal rtsBody := fun s b => by simp [rtsBody, pullWord_eq]

end

/-! ### The shapes of an instruction -/

/-- Both outcomes are next states, the second the first with the decimal flag written. -/
def Unaffected (b : Bool) (o o' : Out) : Prop := ∃ t, o = .next t ∧ o' = .next (t.setFlagTo .d b)

section

variable {s : State} {b xf : Bool} {base : Nat} {e e' : Ea}

theorem unaffected_finish {u u' : State} (h : u' = u.setFlagTo .d b) (af : Bool) (bp : Nat) :
    Unaffected b (finish base af xf bp u) (finish base af xf bp u') :=
  ⟨_, rfl, by rw [h, finish, setCycles_decimal, setFlagTo_decimal _ _ (by decide)]⟩

theorem unaffected_impOp {body : State → State} (h : IgnoresDecimal body) :
    Unaffected b (impOp base body s) (impOp base body (s.setFlagTo .d b)) :=
  unaffected_finish (h s b) _ _

theorem unaffected_immOp {body : Byte → State → State} {m : Byte} (h : IgnoresDecimal (body m)) :
    Unaffected b (immOp base body m s) (immOp base body m (s.setFlagTo .d b)) :=
  unaffected_finish (h s b) _ _

theorem unaffected_readOp {body : Byte → State → State} (he : e' = e.setDecimal b)
    (h : ∀ m, IgnoresDecimal (body m)) : Unaffected b (readOp base xf body e) (readOp base xf body e') := by
  subst he
  exact unaffected_finish (by rw [← h]; simp [Ea.setDecimal]) _ _

theorem unaffected_storeOp {value : State → Byte} (he : e' = e.setDecimal b)
    (h : ∀ t, value (t.setFlagTo .d b) = value t) :
    Unaffected b (storeOp base value e) (storeOp base value e') := by
  subst he
  exact unaffected_finish (by simp [Ea.setDecimal, h]) _ _

theorem unaffected_rmwOp {result : Byte → Bool → Byte} {after : Byte → Byte → State → State}
    (he : e' = e.setDecimal b) (h : ∀ m v, IgnoresDecimal (after m v)) :
    Unaffected b (rmwOp base result after e) (rmwOp base result after e') := by
  subst he
  exact unaffected_finish (by rw [← h]; simp [Ea.setDecimal]) _ _

theorem unaffected_accOp {result : Byte → Bool → Byte} {after : Byte → Byte → State → State}
    (h : ∀ m v, IgnoresDecimal (after m v)) :
    Unaffected b (accOp base result after s) (accOp base result after (s.setFlagTo .d b)) :=
  unaffected_finish (by rw [← setA_decimal, ← h]; simp) _ _

theorem unaffected_nopOp (he : e' = e.setDecimal b) : Unaffected b (nopOp base e) (nopOp base e') := by
  subst he
  exact unaffected_finish rfl _ _

theorem unaffected_jumpOp (he : e' = e.setDecimal b) : Unaffected b (jumpOp base e) (jumpOp base e') := by
  subst he
  exact unaffected_finish rfl _ _

theorem unaffected_branchOp {c c' : Bool} (hc : c' = c) (rel : Byte) :
    Unaffected b (branchOp c rel s) (branchOp c' rel (s.setFlagTo .d b)) := by
  subst hc
  unfold branchOp
  dsimp only [State.setFlagTo_pc]
  split
  · exact unaffected_finish rfl _ _
  · exact unaffected_finish rfl _ _

end

/-! ### Every instruction -/

/-- The instructions that write the decimal flag: CLD and SED, and PLP and RTI, which pull the status. -/
def writesDecimal : List Instr := [.cld, .sed, .plp, .rti]

/-- They leave the same machine whatever the flag was. -/
theorem exec_of_writesDecimal (s : State) (b : Bool) :
    ∀ i ∈ writesDecimal, exec i (s.setFlagTo .d b) = exec i s := by
  have hset (v : Bool) : (s.setFlagTo .d b).setFlagTo .d v = s.setFlagTo .d v :=
    congrArg s.setP (setFlag_setFlag_same s.p .d b v)
  have hplp : plpBody (s.setFlagTo .d b) = plpBody s := by simp [plpBody, pull_eq]
  have hrti : returnFromHandler (s.setFlagTo .d b) = returnFromHandler s := by
    rw [returnFromHandler_eq, returnFromHandler_eq]; rfl
  simp only [writesDecimal, List.forall_mem_cons, List.not_mem_nil, false_implies, implies_true, and_true]
  exact ⟨congrArg (finish 2 false false 0) (hset false), congrArg (finish 2 false false 0) (hset true),
    congrArg (finish 4 false false 0) hplp, congrArg (finish 6 false false 0) hrti⟩

/-- The other instructions, but PHP and BRK, which push the status, commute with a write of the flag. -/
theorem exec_unaffected (i : Instr) (s : State) (b : Bool) (hw : i ∉ writesDecimal) (hphp : i ≠ .php)
    (hbrk : i ≠ .brk) : Unaffected b (exec i s) (exec i (s.setFlagTo .d b)) := by
  cases i
  case oraIzx | oraZp0 | oraAbs | oraIzy | oraZpx | oraAby | oraAbx | andIzx | bitZp0 | andZp0 |
      bitAbs | andAbs | andIzy | andZpx | andAby | andAbx | eorIzx | eorZp0 | eorAbs | eorIzy |
      eorZpx | eorAby | eorAbx | adcIzx | adcZp0 | adcAbs | adcIzy | adcZpx | adcAby | adcAbx |
      ldaIzx | laxIzx | ldyZp0 | ldaZp0 | ldxZp0 | laxZp0 | ldyAbs | ldaAbs | ldxAbs | laxAbs |
      ldaIzy | laxIzy | ldyZpx | ldaZpx | ldxZpy | laxZpy | ldaAby | ldyAbx | ldaAbx | ldxAby |
      laxAby | cmpIzx | cpyZp0 | cmpZp0 | cpyAbs | cmpAbs | cmpIzy | cmpZpx | cmpAby | cmpAbx |
      sbcIzx | cpxZp0 | sbcZp0 | cpxAbs | sbcAbs | sbcIzy | sbcZpx | sbcAby | sbcAbx =>
    exact unaffected_readOp (by simp) (by simp)
  case oraImm | anc0B | andImm | anc2B | eorImm | alrImm | adcImm | ldyImm | ldxImm | ldaImm |
      cpyImm | cmpImm | cpxImm | sbcImm | sbcEB =>
    exact unaffected_immOp (by simp)
  case staIzx | saxIzx | styZp0 | staZp0 | stxZp0 | saxZp0 | styAbs | staAbs | stxAbs | saxAbs |
      staIzy | styZpx | staZpx | stxZpy | saxZpy | staAby | staAbx =>
    exact unaffected_storeOp (by simp) (fun _ => rfl)
  case sloIzx | aslZp0 | sloZp0 | aslAbs | sloAbs | sloIzy | aslZpx | sloZpx | sloAby | aslAbx |
      sloAbx | rlaIzx | rolZp0 | rlaZp0 | rolAbs | rlaAbs | rlaIzy | rolZpx | rlaZpx | rlaAby |
      rolAbx | rlaAbx | sreIzx | lsrZp0 | sreZp0 | lsrAbs | sreAbs | sreIzy | lsrZpx | sreZpx |
      sreAby | lsrAbx | sreAbx | rraIzx | rorZp0 | rraZp0 | rorAbs | rraAbs | rraIzy | rorZpx |
      rraZpx | rraAby | rorAbx | rraAbx | dcpIzx | decZp0 | dcpZp0 | decAbs | dcpAbs | dcpIzy |
      decZpx | dcpZpx | dcpAby | decAbx | dcpAbx | iscIzx | incZp0 | iscZp0 | incAbs | iscAbs |
      iscIzy | incZpx | iscZpx | iscAby | incAbx | iscAbx =>
    exact unaffected_rmwOp (by simp) (by simp)
  case aslAcc | rolAcc | lsrAcc | rorAcc =>
    exact unaffected_accOp (by simp)
  case nop04 | nop0C | nop14 | nop1C | nop34 | nop3C | nop44 | nop54 | nop5C | nop64 | nop74 | nop7C
      | nopD4 | nopDC | nopF4 | nopFC =>
    exact unaffected_nopOp (by simp)
  case jmpAbs | jmpInd =>
    exact unaffected_jumpOp (by simp)
  case bpl | bmi | bvc | bvs | bcc | bcs | bne | beq =>
    exact unaffected_branchOp (by simp) _
  case jsrAbs | pha | rts | pla | dey | txa | tya | txs | tay | tax | tsx | iny | dex | inx =>
    exact unaffected_impOp (by simp)
  case clc | sec | cli | sei | clv =>
    exact unaffected_impOp (ignoresDecimal_setFlagTo (by decide) _)
  case nop1A | nop3A | nop5A | nop7A | nop80 | nop82 | nop89 | nopC2 | nopDA | nopE2 | nop | nopFA =>
    exact unaffected_impOp ignoresDecimal_id
  case stp | rsvImm | rsvIzy | rsvAby | rsvAbx =>
    exact ⟨_, rfl, rfl⟩
  case cld | sed | plp | rti => exact absurd (by decide) hw
  case php => exact absurd rfl hphp
  case brk => exact absurd rfl hbrk

/-! ### PHP and BRK -/

/-- Both outcomes are next states, the second the first with the decimal flag written and another RAM, which reads
the same but at `k`. -/
def UnaffectedButAt (k : Nat) (b : Bool) (o o' : Out) : Prop :=
  ∃ t r, o = .next t ∧ o' = .next ((t.setFlagTo .d b).setRam r)
    ∧ ∀ j, j ≠ k → Memory.read r j = Memory.read t.ram j

/-- Two bodies that store different bytes at `k` and else differ in the decimal flag alone. -/
theorem unaffectedButAt_impOp {s s' u : State} {b : Bool} {body : State → State} {base k : Nat} {m : Memory}
    {v v' : Byte} (h : body s = u.setRam (Memory.write m k v))
    (h' : body s' = (u.setFlagTo .d b).setRam (Memory.write m k v')) :
    UnaffectedButAt k b (impOp base body s) (impOp base body s') := by
  refine ⟨_, Memory.write m k v', rfl, ?_, fun j hj => ?_⟩
  · rw [impOp, finish, h', h, setRam_decimal, setCycles_decimal, setFlagTo_decimal _ _ (by decide)]
    rfl
  · rw [h]
    exact (Memory.read_write_other m k j v' hj.symm).trans (Memory.read_write_other m k j v hj.symm).symm

theorem execPhp_unaffected (s : State) (b : Bool) :
    UnaffectedButAt (stackKey s 0) b (exec .php s) (exec .php (s.setFlagTo .d b)) := by
  have hkey : stackKey s 0 = 256 + s.sp.toNat := by rw [stackKey_eq, BitVec.add_zero]
  rw [hkey]
  exact unaffectedButAt_impOp (u := s.setSp (s.sp - 1)) (push_eq s _) (push_eq (s.setFlagTo .d b) _)

/-- BRK is the shared entry behind its padding byte (`45` R302). -/
theorem brkBody_eq (s : State) :
    brkBody s =
      (((s.setSp (BitVec.ofNat 8 (s.sp.toNat + 253))).setFlagTo .i true).setPc (vector s 0xFFFE)).setRam
        (pushed3 s (s.pc + 1) (pushedByInstruction s.p)) :=
  enterHandler_rule (s.setPc (s.pc + 1)) _ (by decide) (by decide)

theorem execBrk_unaffected (s : State) (b : Bool) :
    UnaffectedButAt (stackKey s 254) b (exec .brk s) (exec .brk (s.setFlagTo .d b)) := by
  refine unaffectedButAt_impOp (v' := pushedByInstruction (setFlag s.p .d b)) (brkBody_eq s) ?_
  rw [brkBody_eq, setSp_decimal, setFlagTo_decimal _ _ (by decide), setPc_decimal]
  rfl

/-! ### The obligation on the decimal flag -/

/-- Settles O8: every instruction commutes with a write of the flag, overwrites it, or pushes it. -/
theorem decimalFlagHasNoEffect : Obligations.DecimalFlagHasNoEffect := by
  intro i s b
  suffices h : ∃ t c r, exec i s = .next t ∧ exec i (s.setFlagTo .d b) = .next ((t.setFlagTo .d c).setRam r)
      ∧ (i ≠ .php → i ≠ .brk → r = t.ram)
      ∧ ∀ k, ¬ (i = .php ∧ k = stackKey s 0) → ¬ (i = .brk ∧ k = stackKey s 254) →
        Memory.read r k = Memory.read t.ram k by
    obtain ⟨t, c, r, ht, hu, hram, hread⟩ := h
    exact ⟨t, _, ht, hu, rfl, rfl, rfl, rfl, rfl, rfl, rfl, rfl, rfl, rfl,
      fun f hf => getFlag_setFlag_other t.p .d f c hf.symm, rfl, rfl, rfl, hram, hread⟩
  by_cases hphp : i = .php
  · subst hphp
    obtain ⟨t, r, ht, hu, hread⟩ := execPhp_unaffected s b
    exact ⟨t, b, r, ht, hu, fun h => absurd rfl h, fun k hk _ => hread k fun e => hk ⟨rfl, e⟩⟩
  by_cases hbrk : i = .brk
  · subst hbrk
    obtain ⟨t, r, ht, hu, hread⟩ := execBrk_unaffected s b
    exact ⟨t, b, r, ht, hu, fun _ h => absurd rfl h, fun k _ hk => hread k fun e => hk ⟨rfl, e⟩⟩
  by_cases hw : i ∈ writesDecimal
  · obtain ⟨t, ht, -⟩ := everyInstructionCompletes i s
    have hd : t.setFlagTo .d (t.flag .d) = t := congrArg t.setP (setFlag_eq_self rfl)
    refine ⟨t, t.flag .d, t.ram, ht, ?_, fun _ _ => rfl, fun _ _ _ => rfl⟩
    rw [exec_of_writesDecimal s b i hw, ht, hd]
    rfl
  · obtain ⟨t, ht, hu⟩ := exec_unaffected i s b hw hphp hbrk
    exact ⟨t, b, t.ram, ht, hu, fun _ _ => rfl, fun _ _ _ => rfl⟩

end Sys2Proof.Machine

/-! ## Shifts and rotates

A shift writes the byte shifted, the bit shifted out to carry, and Z and N from the byte written; on the accumulator
and on memory it is one operation, so each of the four is compared with its rule once (`43` R240 to R244). -/

namespace Sys2Proof.Machine

open Rule

variable {s : State}

/-- A carry written, then `SetZN(v)`, as the last act of an instruction. -/
theorem done_setFlagTo_setZN {u : State} (hp : u.p = s.p) (c : Bool) (v : Byte) (n : Nat) :
    done ((u.setFlagTo .c c).setZN v) n = .next { u with p := flagsCZN s c v, cycles := n } := by
  rw [← flagsCZN_eq, ← hp]; rfl

/-- A form that reads, modifies and writes ends in the rest of its body, on the machine after its read and its
write; it pays no extra cycle, whatever its resolver says (`40` R153). -/
theorem rmwOp_of_resolves {f : Storing} {e : Ea} (he : Resolves s f.ea e) (result : Byte → Bool → Byte)
    (after : Byte → Byte → State → State) :
    rmwOp f.cycles result after e =
      done (after (f.old s) (result (f.old s) (s.flag .c)) (f.written s (result (f.old s) (s.flag .c))))
        f.cycles := by
  obtain ⟨adr, af, st⟩ := e
  obtain ⟨hadr, rfl⟩ := he
  rw [rmwOp_eq, Storing.written, Storing.old, ← hadr, word_toNat]

theorem written_p (f : Storing) (s : State) (v : Byte) : (f.written s v).p = s.p := by
  rw [Storing.written, memWrite_p, busEffect_p]

/-! ### The four operations -/

/-- Under the carry of `s`, the operation writes `shifted m` for the byte `m`; its flags are the bit `out m` in
carry, and Z and N from the byte written. -/
structure Shifts (s : State) (result : Byte → Bool → Byte) (after : Byte → Byte → State → State)
    (shifted : Byte → Byte) (out : Byte → Bool) : Prop where
  result_eq : ∀ m, result m (s.flag .c) = shifted m
  after_eq  : ∀ m v u, after m v u = (u.setFlagTo .c (out m)).setZN v

theorem afterLeft_eq (m v : Byte) (u : State) : afterLeft m v u = (u.setFlagTo .c (outLeft m)).setZN v := by
  rw [afterLeft, bit7_eq]

theorem afterRight_eq (m v : Byte) (u : State) : afterRight m v u = (u.setFlagTo .c (outRight m)).setZN v := by
  rw [afterRight, bit0_eq]

section

variable (s)

theorem shifts_asl : Shifts s aslByte afterLeft (shiftLeft · 0) outLeft :=
  ⟨aslResult_eq, afterLeft_eq⟩

theorem shifts_lsr : Shifts s lsrByte afterRight (shiftRight · 0) outRight :=
  ⟨lsrResult_eq, afterRight_eq⟩

theorem shifts_rol : Shifts s rolResult afterLeft (shiftLeft · (carry s)) outLeft :=
  ⟨fun m => rolResult_eq m s, afterLeft_eq⟩

theorem shifts_ror : Shifts s rorResult afterRight (shiftRight · (carry s)) outRight :=
  ⟨fun m => rorResult_eq m s, afterRight_eq⟩

end

/-! ### On the accumulator and on memory -/

/-- A form that reads a byte, writes it shifted to the same address and sets C, Z and N, leaving A as it was. -/
structure ShiftsMemory (s : State) (shifted : Byte → Byte) (out : Byte → Bool) (f : Storing) : Prop where
  opcode : (encode f.instr).head? = some f.opcode
  exec   : exec f.instr s =
    .next { f.written s (shifted (f.old s)) with
      p := flagsCZN s (out (f.old s)) (shifted (f.old s)), cycles := f.cycles }

section

variable {result : Byte → Bool → Byte} {after : Byte → Byte → State → State} {shifted : Byte → Byte}
  {out : Byte → Bool}

/-- The result reaches A after the flags, which do not read it (`43` R244). -/
theorem Shifts.accOp_eq (h : Shifts s result after shifted out) (n : Nat) :
    accOp n result after s =
      .next { s with a := shifted s.a, p := flagsCZN s (out s.a) (shifted s.a), cycles := n } :=
  calc accOp n result after s
    _ = done ((after s.a (shifted s.a) s).setA (shifted s.a)) n := by rw [← h.result_eq]; rfl
    _ = done (((s.setA (shifted s.a)).setFlagTo .c (out s.a)).setZN (shifted s.a)) n := by rw [h.after_eq]; rfl
    _ = _ := done_setFlagTo_setZN (u := s.setA (shifted s.a)) rfl (out s.a) (shifted s.a) n

theorem Shifts.shiftsMemory (h : Shifts s result after shifted out) {f : Storing} {e : Ea}
    (hop : (encode f.instr).head? = some f.opcode) (hi : exec f.instr s = rmwOp f.cycles result after e)
    (he : Resolves s f.ea e) : ShiftsMemory s shifted out f :=
  ⟨hop, by rw [hi, rmwOp_of_resolves he, h.result_eq, h.after_eq, done_setFlagTo_setZN (written_p f s _)]⟩

/-- The four memory modes of a shift: `i`, `j`, `k`, `l` are its constructors in page zero, in page zero plus X, at
an address and at an address plus X. -/
theorem Shifts.shiftsMemory_of_mem (h : Shifts s result after shifted out) (zp : Byte) (w : Addr)
    {i j k l : Instr} {opI opJ opK opL : Byte}
    (hop : [i, j, k, l].map (fun x => (encode x).head?) = [some opI, some opJ, some opK, some opL])
    (hi : [i, j, k, l].map (exec · s) =
      [rmwOp 5 result after (eaZp0 zp s), rmwOp 6 result after (eaZpx zp s),
       rmwOp 6 result after (eaAbs w s), rmwOp 7 result after (eaAbx w s)]) :
    ∀ f ∈ [(⟨i, opI, zp.toNat, 5⟩ : Storing), ⟨j, opJ, zpx zp s, 6⟩, ⟨k, opK, w.toNat, 6⟩, ⟨l, opL, abx w s, 7⟩],
      ShiftsMemory s shifted out f := by
  simp only [List.map_cons, List.map_nil, List.cons.injEq, and_true] at hop hi
  obtain ⟨hopI, hopJ, hopK, hopL⟩ := hop
  obtain ⟨hiI, hiJ, hiK, hiL⟩ := hi
  simp only [List.forall_mem_cons, List.not_mem_nil, false_implies, implies_true, and_true]
  exact ⟨h.shiftsMemory hopI hiI (resolves_eaZp0 ..), h.shiftsMemory hopJ hiJ (resolves_eaZpx ..),
    h.shiftsMemory hopK hiK (resolves_eaAbs ..), h.shiftsMemory hopL hiL (resolves_eaAbx ..)⟩

end

/-! ### The obligation on shifts and rotates -/

/-- Settles O21: each operation agrees with its rule, on the accumulator and in every form that reads and writes
memory. -/
theorem shiftsAndRotates : Obligations.ShiftsAndRotates := by
  intro s zp w
  have hasl : ∀ f ∈ aslForms zp w s, ShiftsMemory s (shiftLeft · 0) outLeft f :=
    (shifts_asl s).shiftsMemory_of_mem zp w rfl rfl
  have hlsr : ∀ f ∈ lsrForms zp w s, ShiftsMemory s (shiftRight · 0) outRight f :=
    (shifts_lsr s).shiftsMemory_of_mem zp w rfl rfl
  have hrol : ∀ f ∈ rolForms zp w s, ShiftsMemory s (shiftLeft · (carry s)) outLeft f :=
    (shifts_rol s).shiftsMemory_of_mem zp w rfl rfl
  have hror : ∀ f ∈ rorForms zp w s, ShiftsMemory s (shiftRight · (carry s)) outRight f :=
    (shifts_ror s).shiftsMemory_of_mem zp w rfl rfl
  exact ⟨(shifts_asl s).accOp_eq 2, (shifts_lsr s).accOp_eq 2, (shifts_rol s).accOp_eq 2, (shifts_ror s).accOp_eq 2,
    rfl, fun f hf => ⟨(hasl f hf).opcode, (hasl f hf).exec⟩, fun f hf => ⟨(hlsr f hf).opcode, (hlsr f hf).exec⟩,
    fun f hf => ⟨(hrol f hf).opcode, (hrol f hf).exec⟩, fun f hf => ⟨(hror f hf).opcode, (hror f hf).exec⟩⟩

end Sys2Proof.Machine

/-! ## Branches

A branch writes no flag and moves `PC` alone. Its target is a sum of integers, and it pays for another page as an
indexed address does (`44` R260). -/

namespace Sys2Proof.Machine

open Rule

/-- The displacement is signed, and the target wraps at 65536. -/
theorem branchTarget_eq (pc : Addr) (rel : Byte) :
    pc + rel.signExtend 16 = BitVec.ofInt 16 ((pc.toNat : Int) + rel.toInt) := by
  rw [BitVec.ofInt_add, BitVec.ofInt_natCast, BitVec.ofNat_toNat, BitVec.setWidth_eq]
  rfl

/-- Two addresses lie on different pages where their high bytes differ. -/
theorem otherPage_toNat (a b : Addr) :
    otherPage a.toNat b.toNat = if hiByte a ≠ hiByte b then 1 else 0 := by
  rw [otherPage, ← toNat_hiByte, ← toNat_hiByte, ite_not]
  simp only [BitVec.toNat_inj]

/-- `BranchIf(cond)` in the words of the rule (`44` R260). -/
theorem branchOp_eq (cond : Bool) (rel : Byte) (s : State) :
    branchOp cond rel s =
      if cond then
        .next { s with
          pc := BitVec.ofInt 16 ((s.pc.toNat : Int) + rel.toInt), p := sameFlags s,
          cycles := 3 + otherPage (BitVec.ofInt 16 ((s.pc.toNat : Int) + rel.toInt)).toNat s.pc.toNat }
      else .next { s with p := sameFlags s, cycles := 2 } := by
  simp only [branchOp, ← branchTarget_eq, otherPage_toNat]
  generalize s.pc + rel.signExtend 16 = target
  cases cond with
  | false => exact done_sameFlags rfl 2
  | true =>
    have hcycles : (2 + if hiByte target ≠ hiByte s.pc then 2 else 1) =
        3 + if hiByte target ≠ hiByte s.pc then 1 else 0 := by split <;> rfl
    rw [← hcycles]
    exact done_sameFlags (u := s.setPc target) rfl _

/-- Each branch has its opcode and is the shared branch on its own flag (`44` R261 to R268). -/
theorem exec_of_mem_branches (s : State) (rel : Byte) :
    ∀ b ∈ branches rel s, encode b.1 = [b.2.1, rel] ∧ exec b.1 s = branchOp b.2.2 rel s := by
  simp only [branches, List.forall_mem_cons, List.not_mem_nil, false_implies, implies_true, and_true]
  and_intros
  all_goals rfl

/-- Settles O24: the shared branch agrees with its rule. -/
theorem branchesTestOneFlag : Obligations.BranchesTestOneFlag := by
  intro s rel b hb
  obtain ⟨henc, hexec⟩ := exec_of_mem_branches s rel b hb
  exact ⟨henc, hexec.trans (branchOp_eq b.2.2 rel s)⟩

end Sys2Proof.Machine

/-! ## The stack

A word pushed and a word pulled in the words of the rules, and that a pull gives back what was pushed
(`44` R271, R272; `45` R290 to R293). -/

namespace Sys2Proof.Machine

open Rule

/-! ### Pushes and pulls as numbers -/

section

variable (s : State)

/-- A word goes to the stack bytes at the pointer and below it, high byte first (`20` R73). -/
theorem pushWord_rule (w : Addr) :
    pushWord s w =
      { s with
        ram := Memory.write (Memory.write s.ram (stackKey s 0) (BitVec.ofNat 8 (w.toNat / 256)))
          (stackKey s 255) (BitVec.ofNat 8 (w.toNat % 256)),
        sp := BitVec.ofNat 8 (s.sp.toNat + 254) } := by
  have h255 : s.sp - 1 = s.sp + 255#8 := BitVec.sub_eq_add_neg s.sp 1
  have h254 : BitVec.ofNat 8 (s.sp.toNat + 254) = s.sp - 2 := (byte_sub_eq s.sp 2).symm
  rw [pushWord_eq, stackKey_eq, stackKey_eq, ← hiByte_eq, ← loByte_eq, h254, h255, BitVec.add_zero]
  rfl

/-- The word of the two bytes that lie above the pointer, the low byte first (`20` R73). -/
theorem pullWord_rule :
    pullWord s =
      (word (peek s (stackKey s 1) + 256 * peek s (stackKey s 2)), s.setSp (BitVec.ofNat 8 (s.sp.toNat + 2))) := by
  have hsp : BitVec.ofNat 8 (s.sp.toNat + 2) = s.sp + 2 := by rw [BitVec.ofNat_add, BitVec.ofNat_toNat]; rfl
  rw [pullWord_eq, wordOf_eq_word, hsp, peek, peek, stackKey_eq, stackKey_eq]
  rfl

/-- JSR pushes the address before the following instruction, which is that of its own last byte (`44` R271). -/
theorem pred_toNat (w : Addr) : (w - 1).toNat = (w.toNat + 65535) % 65536 := by
  rw [BitVec.toNat_sub, Nat.add_comm]
  rfl

end

/-! ### The instructions that pull -/

section

variable {s t : State}

theorem execRts_of_pullWord {w : Addr} (h : pullWord s = (w, t)) : exec .rts s = done (t.setPc (w + 1)) 6 :=
  (impOp_eq s 6 rtsBody).trans (by rw [rtsBody, h])

theorem execPla_of_pull {v : Byte} (h : pull s = (v, t)) : exec .pla s = done ((t.setA v).setZN v) 4 :=
  (impOp_eq s 4 plaBody).trans (by rw [plaBody, h])

theorem execPlp_of_pull {v : Byte} (h : pull s = (v, t)) : exec .plp s = done (t.setP (pulledStatus v)) 4 :=
  (impOp_eq s 4 plpBody).trans (by rw [plpBody, h])

end

/-! ### The obligation on JSR and RTS -/

/-- Settles O26: JSR pushes a word and RTS pulls one, which the rules say in numbers. -/
theorem jsrAndRts : Obligations.JsrAndRts := by
  intro s w
  refine ⟨?_, ?_, rfl, rfl⟩
  · calc exec (.jsrAbs w) s
      _ = done ((pushWord s (s.pc - 1)).setPc w) 6 := rfl
      _ = _ := by
        rw [pushWord_rule, pred_toNat]
        exact done_sameFlags rfl 6
  · rw [execRts_of_pullWord (pullWord_rule s), ← word_succ]
    exact done_sameFlags rfl 6

/-! ### What was pushed is pulled back -/

section

variable {s u : State}

/-- A byte pulled from the stack that a push left is the byte pushed, and the pointer is back. -/
theorem pull_of_push {v : Byte} (hsp : u.sp = (push s v).sp) (hram : u.ram = (push s v).ram) :
    pull u = (v, u.setSp s.sp) := by
  have hback : u.sp + 1 = s.sp := by rw [hsp, push_eq]; exact BitVec.sub_add_cancel s.sp 1
  have hread : Memory.read u.ram (256 + s.sp.toNat) = v := by
    rw [hram, push_eq]; exact Memory.read_write_same _ _ _
  rw [pull_eq, hback, hread]

/-- A word is pushed and pulled as two different bytes, in opposite orders. -/
theorem pullWord_of_pushWord {w : Addr} (hsp : u.sp = (pushWord s w).sp) (hram : u.ram = (pushWord s w).ram) :
    pullWord u = (w, u.setSp s.sp) := by
  rw [pushWord_eq] at hsp hram
  have hlow : u.sp + 1 = s.sp - 1 := by rw [hsp, State.setSp_sp]; bv_omega
  have hhigh : u.sp + 2 = s.sp := by rw [hsp]; exact BitVec.sub_add_cancel s.sp 2
  have hne : 256 + (s.sp - 1).toNat ≠ 256 + s.sp.toNat := by bv_omega
  rw [pullWord_eq, hlow, hhigh, hram, State.setSp_ram, State.setRam_ram, Memory.read_write_same,
    Memory.read_write_other _ _ _ _ hne, Memory.read_write_same, wordOf_hiByte_loByte]

/-- PLP discards the two bits that PHP forces, so an observable status is restored whole (`45` R292, R293). -/
theorem pulledStatus_pushedByInstruction {p : Byte} (hb : getFlag p .b = false) (hu : getFlag p .u = true) :
    setFlag (pulledStatus (pushedByInstruction p)) .u true = p := by
  apply status_ext
  intro f
  rw [getFlag_setFlag, getFlag_pulledStatus, getFlag_pushedByInstruction]
  cases f <;> simp [hb, hu]

end

/-! ### The obligation on the round trips -/

/-- Settles O28: each pull meets the stack that its push left. -/
theorem stackRoundTrips : Obligations.StackRoundTrips := by
  intro s w
  refine ⟨⟨_, rfl, fun u hsp hram => ?_⟩, ⟨_, rfl, fun u hsp hram => ?_⟩, ⟨_, rfl, fun u hsp hram => ?_⟩⟩
  · have hpull : pullWord u = (s.pc - 1, u.setSp s.sp) := pullWord_of_pushWord hsp hram
    exact ⟨_, execRts_of_pullWord hpull, BitVec.sub_add_cancel s.pc 1, rfl⟩
  · have hpull : pull u = (s.a, u.setSp s.sp) := pull_of_push hsp hram
    exact ⟨_, execPla_of_pull hpull, rfl, rfl⟩
  · have hpull : pull u = (pushedByInstruction s.p, u.setSp s.sp) := pull_of_push hsp hram
    exact ⟨_, execPlp_of_pull hpull, rfl, pulledStatus_pushedByInstruction⟩

end Sys2Proof.Machine

/-! ## The stack instructions, the flag instructions, the no-ops and RTI

Each body in the words of the rules (`45` R290 to R303, `46` R330), and that RTI meets the three bytes which the
entry of an interrupt or of BRK pushed (`60` R415, R430). -/

namespace Sys2Proof.Machine

open Rule

/-! ### Pushes, pulls and RTI as numbers -/

section

variable (s : State)

/-- A byte goes to the stack byte at the pointer (`40` R138). -/
theorem push_rule (v : Byte) :
    push s v =
      { s with ram := Memory.write s.ram (stackKey s 0) v, sp := BitVec.ofNat 8 (s.sp.toNat + 255) } := by
  rw [push_eq, stackKey_eq, BitVec.add_zero, ← byte_pred_eq]
  rfl

/-- A byte comes from the stack byte above the pointer (`40` R138). -/
theorem pull_rule :
    pull s = (Memory.read s.ram (stackKey s 1), s.setSp (BitVec.ofNat 8 (s.sp.toNat + 1))) := by
  rw [pull_eq, stackKey_eq, ← byte_succ_eq]
  rfl

/-- The return of RTI: the status lies above the pointer, then the word, the low byte first (`45` R303). -/
theorem returnFromHandler_rule :
    returnFromHandler s =
      { s with
        p := pulledStatus (Memory.read s.ram (stackKey s 1)),
        pc := word (peek s (stackKey s 2) + 256 * peek s (stackKey s 3)),
        sp := BitVec.ofNat 8 (s.sp.toNat + 3) } := by
  have hsp : BitVec.ofNat 8 (s.sp.toNat + 3) = s.sp + 3 := by rw [BitVec.ofNat_add, BitVec.ofNat_toNat]; rfl
  rw [returnFromHandler_eq, wordOf_eq_word, hsp, peek, peek, stackKey_eq, stackKey_eq, stackKey_eq]
  rfl

end

theorem execRti_of_return {s t : State} (h : returnFromHandler s = t) : exec .rti s = done t 6 :=
  (impOp_eq s 6 returnFromHandler).trans (by rw [h])

/-- An instruction that ends in the status it pulled: the always-set flag is forced (`40` R134, `45` R293, R303). -/
theorem done_pulledStatus {u : State} {v : Byte} (hp : u.p = pulledStatus v) (n : Nat) :
    done u n = .next { u with p := (v &&& 0xCF#8) ||| 0x20#8, cycles := n } := by
  rw [done, hp]
  rfl

/-! ### The obligations on pushes, pulls and RTI -/

/-- Settles O27: a push writes no flag, PLA ends in `SetZN` of its byte, PLP in the status it pulled. -/
theorem pushesAndPulls : Obligations.PushesAndPulls := by
  intro s
  refine ⟨?pha, ?php, ?pla, ?plp, rfl⟩
  case pha =>
    calc exec .pha s
      _ = done (push s s.a) 3 := rfl
      _ = _ := by rw [push_rule]; exact done_sameFlags rfl 3
  case php =>
    calc exec .php s
      _ = done (push s (pushedByInstruction s.p)) 3 := rfl
      _ = _ := by rw [push_rule]; exact done_sameFlags rfl 3
  case pla =>
    rw [execPla_of_pull (pull_rule s)]
    exact done_setZN rfl _ 4
  case plp =>
    rw [execPlp_of_pull (pull_rule s)]
    exact done_pulledStatus rfl 4

/-- Settles O32: RTI is `returnFromHandler`, and ends in the status it pulled. -/
theorem rtiRestoresStatusAndPc : Obligations.RtiRestoresStatusAndPc := by
  intro s
  exact ⟨(execRti_of_return (returnFromHandler_rule s)).trans (done_pulledStatus rfl 6), rfl⟩

/-! ### The flag instructions -/

/-- An instruction whose last act is the write of one flag, and of no other (`45` R294 to R300). -/
theorem done_setFlagTo (s : State) (f : StatusFlag) (on : Bool) (n : Nat) :
    done (s.setFlagTo f on) n = .next { s with p := flagSet s f on, cycles := n } := by
  rw [← flagSet_eq]
  rfl

/-- Settles O29: the body of each is the write of its flag. -/
theorem flagInstructionsWriteOneFlag : Obligations.FlagInstructionsWriteOneFlag := by
  intro s
  simp only [List.forall_mem_cons, List.not_mem_nil, false_implies, implies_true, and_true]
  exact ⟨⟨rfl, done_setFlagTo s .c false 2⟩, ⟨rfl, done_setFlagTo s .c true 2⟩,
    ⟨rfl, done_setFlagTo s .i false 2⟩, ⟨rfl, done_setFlagTo s .i true 2⟩,
    ⟨rfl, done_setFlagTo s .d false 2⟩, ⟨rfl, done_setFlagTo s .d true 2⟩,
    ⟨rfl, done_setFlagTo s .v false 2⟩⟩

/-! ### The no-ops -/

/-- Each no-op has its opcode and ends in the machine it started from: its shape is IMP, or `nopOp` of a resolver,
of which only ABX can announce another page. -/
theorem exec_of_mem_noOps (s : State) (m zp : Byte) (w : Addr) :
    ∀ e ∈ noOps m zp w s, (encode e.1).head? = some e.2.1 ∧ exec e.1 s = done s e.2.2 := by
  have himp : impOp 2 (fun t => t) s = done s 2 := impOp_eq s 2 _
  have hzp0 : nopOp 3 (eaZp0 zp s) = done s 3 := nopOp_plain s 3 _
  have hzpx : nopOp 4 (eaZpx zp s) = done s 4 := nopOp_plain s 4 _
  have habs : nopOp 4 (eaAbs w s) = done s 4 := nopOp_plain s 4 _
  have habx : nopOp 4 (eaAbx w s) = done s (4 + otherPage (abx w s) w.toNat) := by
    rw [eaAbx_eq, nopOp_paged]
  simp only [noOps, List.forall_mem_cons, List.not_mem_nil, false_implies, implies_true, and_true]
  exact ⟨⟨rfl, himp⟩, ⟨rfl, himp⟩, ⟨rfl, himp⟩, ⟨rfl, himp⟩, ⟨rfl, himp⟩, ⟨rfl, himp⟩, ⟨rfl, himp⟩,
    ⟨rfl, himp⟩, ⟨rfl, himp⟩, ⟨rfl, himp⟩, ⟨rfl, himp⟩, ⟨rfl, himp⟩,
    ⟨rfl, hzp0⟩, ⟨rfl, hzp0⟩, ⟨rfl, hzp0⟩,
    ⟨rfl, hzpx⟩, ⟨rfl, hzpx⟩, ⟨rfl, hzpx⟩, ⟨rfl, hzpx⟩, ⟨rfl, hzpx⟩, ⟨rfl, hzpx⟩,
    ⟨rfl, habs⟩,
    ⟨rfl, habx⟩, ⟨rfl, habx⟩, ⟨rfl, habx⟩, ⟨rfl, habx⟩, ⟨rfl, habx⟩, ⟨rfl, habx⟩⟩

/-- Settles O30: a no-op writes no flag. -/
theorem noOpsDoNothing : Obligations.NoOpsDoNothing := by
  intro s m zp w e he
  obtain ⟨hop, hexec⟩ := exec_of_mem_noOps s m zp w e he
  exact ⟨hop, hexec.trans (done_sameFlags rfl e.2.2)⟩

/-! ### RTI after an entry -/

/-- An observable status comes back from the byte that `irq()` and `nmi()` push (`45` R303, `60` R412). -/
theorem pulledStatus_pushedByInterrupt {p : Byte} (hb : getFlag p .b = false) (hu : getFlag p .u = true) :
    setFlag (pulledStatus (pushedByInterrupt p)) .u true = p := by
  apply status_ext
  intro f
  rw [getFlag_setFlag, getFlag_pulledStatus, getFlag_pushedByInterrupt]
  cases f <;> simp [hb, hu]

/-- The return on the stack that an entry left: the three bytes lie at three different keys. -/
theorem returnFromHandler_of_pushed3 {s u : State} {w : Addr} {status : Byte}
    (hsp : u.sp = BitVec.ofNat 8 (s.sp.toNat + 253)) (hram : u.ram = pushed3 s w status) :
    returnFromHandler u = { u with p := pulledStatus status, pc := w, sp := s.sp } := by
  have hstatus : u.sp + 1 = s.sp - 2 := by rw [hsp]; bv_omega
  have hlow : u.sp + 2 = s.sp - 1 := by rw [hsp]; bv_omega
  have hhigh : u.sp + 3 = s.sp := by rw [hsp]; bv_omega
  have hne21 : 256 + (s.sp - 2).toNat ≠ 256 + (s.sp - 1).toNat := by bv_omega
  have hne20 : 256 + (s.sp - 2).toNat ≠ 256 + s.sp.toNat := by bv_omega
  have hne10 : 256 + (s.sp - 1).toNat ≠ 256 + s.sp.toNat := by bv_omega
  rw [returnFromHandler_eq, hstatus, hlow, hhigh, hram, pushed3_eq, Memory.read_write_same,
    Memory.read_write_other _ _ _ _ hne21, Memory.read_write_same,
    Memory.read_write_other _ _ _ _ hne20, Memory.read_write_other _ _ _ _ hne10,
    Memory.read_write_same, wordOf_hiByte_loByte]

/-- Settles O34: RTI pulls what the entry pushed, and an observable status survives both masks. -/
theorem rtiResumes : Obligations.RtiResumes := by
  intro s u hb hu
  obtain ⟨hbrk, -⟩ := brkEntersTheIrqHandler s
  obtain ⟨hnmi, hirq, -⟩ := interruptEntry s
  refine ⟨fun hentry => ?interrupt, _, hbrk, fun hsp hram => ?brk⟩
  case interrupt =>
    obtain ⟨hsp, hram⟩ :
        u.sp = BitVec.ofNat 8 (s.sp.toNat + 253) ∧ u.ram = pushed3 s s.pc (pushedByInterrupt s.p) := by
      rw [pushedByInterrupt_eq]
      obtain ⟨hsp, hram⟩ | ⟨hi, hsp, hram⟩ := hentry
      · exact ⟨by rw [hsp, hnmi], by rw [hram, hnmi]⟩
      · exact ⟨by rw [hsp, hirq hi], by rw [hram, hirq hi]⟩
    exact ⟨_, execRti_of_return (returnFromHandler_of_pushed3 hsp hram), rfl, rfl,
      pulledStatus_pushedByInterrupt hb hu⟩
  case brk =>
    exact ⟨_, execRti_of_return (returnFromHandler_of_pushed3 hsp hram), rfl, rfl,
      pulledStatus_pushedByInstruction hb hu⟩

end Sys2Proof.Machine

/-! ## The fused instructions and the stuck state

A fused instruction reads a byte, writes it modified, and ends in the rest of its body: the flags of the modifying
instruction, then the body of an accumulator instruction on the byte written (`46` R322 to R327). -/

namespace Sys2Proof.Machine

open Rule

variable {s : State}

/-! ### Forms that read, modify and write -/

/-- The form has its opcode, and executes `after` on the byte it read, the byte `result` it wrote and the machine
after both, in its cycles. -/
structure ModifiesMemory (s : State) (result : Byte → Bool → Byte) (after : Byte → Byte → State → State)
    (f : Storing) : Prop where
  opcode : (encode f.instr).head? = some f.opcode
  exec   : exec f.instr s =
    done (after (f.old s) (result (f.old s) (s.flag .c)) (f.written s (result (f.old s) (s.flag .c)))) f.cycles

theorem modifiesMemory_of_rmwOp {f : Storing} {result : Byte → Bool → Byte}
    {after : Byte → Byte → State → State} {e : Ea} (hop : (encode f.instr).head? = some f.opcode)
    (hi : exec f.instr s = rmwOp f.cycles result after e) (he : Resolves s f.ea e) :
    ModifiesMemory s result after f :=
  ⟨hop, hi.trans (rmwOp_of_resolves he result after)⟩

/-- Every form of a fused instruction modifies the byte at its address, in all seven modes. -/
theorem modifiesMemory_of_mem_forms (s : State) (zp : Byte) (w : Addr) :
    (∀ f ∈ sloForms zp w s, ModifiesMemory s aslByte afterSlo f)
    ∧ (∀ f ∈ rlaForms zp w s, ModifiesMemory s rolResult afterRla f)
    ∧ (∀ f ∈ sreForms zp w s, ModifiesMemory s lsrByte afterSre f)
    ∧ (∀ f ∈ rraForms zp w s, ModifiesMemory s rorResult afterRra f)
    ∧ (∀ f ∈ iscForms zp w s, ModifiesMemory s incResult afterIsc f)
    ∧ (∀ f ∈ dcpForms zp w s, ModifiesMemory s decResult afterDcp f) := by
  simp only [sloForms, rlaForms, sreForms, rraForms, iscForms, dcpForms, List.forall_mem_cons, List.not_mem_nil,
    false_implies, implies_true, and_true]
  and_intros
  all_goals exact modifiesMemory_of_rmwOp rfl rfl (by simp)

theorem written_a (f : Storing) (s : State) (v : Byte) : (f.written s v).a = s.a := by
  rw [Storing.written, memWrite_a, busEffect_a]

/-! ### The rest of a fused body -/

section

variable {u : State}

/-- A carry, then a result in the accumulator, on a machine with the status of `s` (`46` R324 to R326). -/
theorem done_setFlagTo_resultA (hp : u.p = s.p) (c : Bool) (r : Byte) (n : Nat) :
    done (resultA r (u.setFlagTo .c c)) n = .next { u with a := r, p := flagsCZN s c r, cycles := n } :=
  done_setFlagTo_setZN (u := u.setA r) hp c r n

theorem flagsVCZN_setFlagTo_c (c : Bool) : flagsVCZN (s.setFlagTo .c c) = flagsVCZN s := by
  funext v c' r
  rw [← flagsVCZN_eq, ← flagsVCZN_eq, State.setFlagTo, State.setP_p, setFlag_setFlag_same]

theorem carry_setFlagTo_c (c : Bool) : carry (s.setFlagTo .c c) = c.toNat := by
  rw [← carry_eq, State.flag, State.setFlagTo, State.setP_p, getFlag_setFlag_same]

theorem toNat_outRight (m : Byte) : (outRight m).toNat = m.toNat % 2 := by
  rcases Nat.mod_two_eq_zero_or_one m.toNat with h | h <;> simp [outRight, h]

/-- RRA adds with the bit rotated out of the byte `m` as carry (`46` R327). -/
theorem done_afterRra (hp : u.p = s.p) (ha : u.a = s.a) (m v : Byte) (n : Nat) :
    done (afterRra m v u) n =
      .next { u with
        a := adcByte s.a v (m.toNat % 2),
        p := flagsVCZN s (adcOver s.a v (m.toNat % 2)) (adcCarry s.a v (m.toNat % 2))
              (adcByte s.a v (m.toNat % 2)),
        cycles := n } := by
  have hp' : (u.setFlagTo .c (outRight m)).p = (s.setFlagTo .c (outRight m)).p :=
    congrArg (setFlag · .c (outRight m)) hp
  rw [afterRra, bit0_eq, done_addWithCarry _ _ v n hp' ha, carry_setFlagTo_c, toNat_outRight,
    flagsVCZN_setFlagTo_c]
  rfl

end

/-! ### A fused instruction as two instructions -/

/-- The machine an instruction ends in: the always-set flag forced, the cycles assigned. -/
def ended (t : State) (n : Nat) : State := { t with p := setFlag t.p .u true, cycles := n }

theorem done_eq_ended (t : State) (n : Nat) : done t n = .next (ended t n) := rfl

/-- Of a body run on the byte `v` it makes no difference that an instruction ended in `SetZN(v)` before it: the body
writes Z and N itself and reads neither them nor the cycles. -/
def OverwritesZN (body : Byte → State → State) : Prop :=
  ∀ (v : Byte) (u : State) (k n : Nat), done (body v (ended (u.setZN v) k)) n = done (body v u) n

section

variable (u : State) (v : Byte) (k : Nat)

theorem flag_ended_setZN {f : StatusFlag} (hz : f ≠ .z) (hn : f ≠ .n) (hu : f ≠ .u) :
    (ended (u.setZN v) k).flag f = u.flag f := by
  show getFlag (setFlag (setZN v u.p) .u true) f = getFlag u.p f
  rw [getFlag_setFlag, if_neg hu.symm, getFlag_setZN, if_neg hn, if_neg hz]

theorem flagsZN_ended_setZN : flagsZN (ended (u.setZN v) k) = flagsZN u := by
  funext r
  simp [flagsZN, flag_ended_setZN]

theorem flagsCZN_ended_setZN : flagsCZN (ended (u.setZN v) k) = flagsCZN u := by
  funext c r
  simp [flagsCZN, flag_ended_setZN]

theorem flagsVCZN_ended_setZN : flagsVCZN (ended (u.setZN v) k) = flagsVCZN u := by
  funext o c r
  simp [flagsVCZN, flag_ended_setZN]

theorem carry_ended_setZN : carry (ended (u.setZN v) k) = carry u := by
  simp [carry, flag_ended_setZN]

end

theorem overwritesZN_resultA (result : Byte → Byte → Byte) :
    OverwritesZN fun v u => resultA (result u.a v) u := by
  intro v u k n
  rw [done_resultA rfl, done_resultA rfl, flagsZN_ended_setZN]
  rfl

theorem overwritesZN_addWithCarry : OverwritesZN addWithCarry := by
  intro v u k n
  rw [done_addWithCarry _ _ _ _ rfl rfl, done_addWithCarry _ _ _ _ rfl rfl, flagsVCZN_ended_setZN,
    carry_ended_setZN]
  rfl

theorem overwritesZN_subtract : OverwritesZN subtract := by
  intro v u k n
  rw [done_subtract rfl rfl, done_subtract rfl rfl, flagsVCZN_ended_setZN, carry_ended_setZN]
  rfl

theorem overwritesZN_compareA : OverwritesZN compareA := by
  intro v u k n
  rw [compareA, compareA, done_compare _ _ _ _ _ rfl, done_compare _ _ _ _ _ rfl, flagsCompare,
    flagsCZN_ended_setZN]
  rfl

/-- `after` is what `first`, an instruction's end, and then `body` on the byte `v` do; `first` leaves RAM as it
was. -/
structure Fuses (first : Byte → Byte → State → State) (body : Byte → State → State)
    (after : Byte → Byte → State → State) : Prop where
  done_eq   : ∀ m v u k n, done (after m v u) n = done (body v (ended (first m v u) k)) n
  first_ram : ∀ m v u, (first m v u).ram = u.ram

section

variable {body : Byte → State → State}

theorem OverwritesZN.fuses_left (h : OverwritesZN body) :
    Fuses afterLeft body fun m v u => body v (u.setFlagTo .c (m.getLsbD 7)) :=
  ⟨fun _ _ _ _ _ => (h _ _ _ _).symm, fun _ _ _ => rfl⟩

theorem OverwritesZN.fuses_right (h : OverwritesZN body) :
    Fuses afterRight body fun m v u => body v (u.setFlagTo .c (m.getLsbD 0)) :=
  ⟨fun _ _ _ _ _ => (h _ _ _ _).symm, fun _ _ _ => rfl⟩

theorem OverwritesZN.fuses_count (h : OverwritesZN body) : Fuses afterCount body fun _ v u => body v u :=
  ⟨fun _ _ _ _ _ => (h _ _ _ _).symm, fun _ _ _ => rfl⟩

end

/-- The fusion is its two instructions in a row, but for the cycles. -/
def IsTwoInstructions (s : State) (f : Fusion) : Prop :=
  ∃ t u, exec f.first s = .next t ∧ exec (f.second (busValue t (word f.ea))) t = .next u
    ∧ exec f.fused s = .next { u with cycles := f.cycles }

/-- On RAM the byte read back is the byte the first instruction wrote. -/
theorem isTwoInstructions_of_fuses {f : Fusion} {n : Nat} {result : Byte → Bool → Byte}
    {first after : Byte → Byte → State → State} {body : Byte → State → State} {e : Ea}
    (h : Fuses first body after) (hfirst : exec f.first s = rmwOp n result first e)
    (hsecond : ∀ v t, exec (f.second v) t = immOp 2 body v t)
    (hfused : exec f.fused s = rmwOp f.cycles result after e) (he : Resolves s f.ea e) (hram : f.ea < 0x2000) :
    IsTwoInstructions s f := by
  obtain ⟨adr, af, st⟩ := e
  obtain ⟨hadr, rfl⟩ := he
  let m := busValue st adr
  let v := result m (st.flag .c)
  let u := memWrite (busEffect st adr) adr v
  have hback : busValue (ended (first m v u) n) (word f.ea) = v := by
    rw [← hadr] at hram ⊢
    rw [word_toNat, busValue_eq, if_pos hram]
    show Memory.read (first m v u).ram _ = v
    rw [h.first_ram, read_memWrite_ram, if_pos ⟨hram, rfl⟩]
  refine ⟨ended (first m v u) n, ended (body v (ended (first m v u) n)) 2,
    hfirst.trans (rmwOp_eq ..), ?second, ?fused⟩
  case second => rw [hback, hsecond, immOp_eq, done_eq_ended]
  case fused => rw [hfused, rmwOp_eq, h.done_eq _ _ _ n]; rfl

/-! ### The obligations on undocumented instructions -/

/-- Settles O22: every form modifies one byte, and the rest of its body is that of an accumulator instruction on the
byte written. -/
theorem fusedInstructions : Obligations.FusedInstructions := by
  intro s zp w
  obtain ⟨hslo, hrla, hsre, hrra, hisc, hdcp⟩ := modifiesMemory_of_mem_forms s zp w
  refine ⟨fun f hf => ⟨(hslo f hf).opcode, ?slo⟩, fun f hf => ⟨(hrla f hf).opcode, ?rla⟩,
    fun f hf => ⟨(hsre f hf).opcode, ?sre⟩, fun f hf => ⟨(hrra f hf).opcode, ?rra⟩,
    fun f hf => ⟨(hisc f hf).opcode, ?isc⟩, fun f hf => ⟨(hdcp f hf).opcode, ?dcp⟩⟩
  case slo =>
    rw [(hslo f hf).exec, (shifts_asl s).result_eq, afterSlo, bit7_eq, orA,
      done_setFlagTo_resultA (written_p f s _), State.setFlagTo_a, written_a]
  case rla =>
    rw [(hrla f hf).exec, (shifts_rol s).result_eq, afterRla, bit7_eq, andA,
      done_setFlagTo_resultA (written_p f s _), State.setFlagTo_a, written_a]
  case sre =>
    rw [(hsre f hf).exec, (shifts_lsr s).result_eq, afterSre, bit0_eq, eorA,
      done_setFlagTo_resultA (written_p f s _), State.setFlagTo_a, written_a]
  case rra =>
    rw [(hrra f hf).exec, (shifts_ror s).result_eq, done_afterRra (written_p f s _) (written_a f s _)]
  case isc =>
    rw [(hisc f hf).exec, incResult, byte_succ_eq, afterIsc, done_subtract (written_p f s _) (written_a f s _)]
  case dcp =>
    rw [(hdcp f hf).exec, decResult, byte_pred_eq, afterDcp, compareA, written_a,
      done_compare s _ _ _ _ (written_p f s _)]

/-- Settles O23: each fused body is the flags of the first instruction without Z and N, then the second's body, which
writes those; what the four modes add is the address alone. -/
theorem fusedIsTwoInstructions : Obligations.FusedIsTwoInstructions := by
  intro s zp w
  have hslo : Fuses afterLeft orA afterSlo := (overwritesZN_resultA (· ||| ·)).fuses_left
  have hrla : Fuses afterLeft andA afterRla := (overwritesZN_resultA (· &&& ·)).fuses_left
  have hsre : Fuses afterRight eorA afterSre := (overwritesZN_resultA (· ^^^ ·)).fuses_right
  have hrra : Fuses afterRight addWithCarry afterRra := overwritesZN_addWithCarry.fuses_right
  have hdcp : Fuses afterCount compareA afterDcp := overwritesZN_compareA.fuses_count
  have hisc : Fuses afterCount subtract afterIsc := overwritesZN_subtract.fuses_count
  show ∀ f ∈ fusions zp w s, f.ea < 0x2000 → IsTwoInstructions s f
  simp only [fusions, List.forall_mem_cons, List.not_mem_nil, false_implies, implies_true, and_true]
  and_intros
  all_goals exact fun hram => isTwoInstructions_of_fuses (by assumption) rfl (fun _ _ => rfl) rfl (by simp) hram

/-- Settles O7: the stuck state is one field, which the CPU's clock tests first and a reset clears. -/
theorem jamIsAStuckState : Obligations.JamIsAStuckState := by
  intro i s h
  refine ⟨exec_of_jams h s, clock_jammed _ rfl, ?_⟩
  obtain ⟨pc, hreset⟩ := systemReset_eq { s with jammed := true }
  rw [hreset]

end Sys2Proof.Machine

/-! ## The boundary of a tick, the vertical blank and the safety of a step

At the end of a tick one of reset, NMI and IRQ is served. A clock of the picture processor touches `vblank` and the
NMI request at two positions, and there it is one action and the advance. A step is the body of a tick and its end,
and each answers a next state. -/

namespace Sys2Proof.Machine

/-! ### The order of the requests -/

/-- `IntSelect`, with the mask of the IRQ as a condition of the rule (`60` R421). -/
theorem intSelect_eq (resetReq irqReq : Bool) (s : State) :
    intSelect resetReq irqReq s =
      if resetReq then systemReset s
      else if s.ppu.nmiRequest then deliver nmi (s.setPpu { s.ppu with nmiRequest := false })
      else if irqReq ∧ s.flag .i = false then deliver irq s
      else s := by
  unfold intSelect
  simp only [Bool.and_eq_true, Bool.not_eq_true']

/-- Settles O35: the end of a tick is `IntSelect` on the first request of the list. -/
theorem interruptPriority : Obligations.InterruptPriority := by
  intro s r u
  have hfirst : s.requests.headD { reset := false, irq := false } = r := by
    dsimp only [r]
    cases s.requests <;> rfl
  have htick : tickEnd s = .next (intSelect r.reset r.irq u) := by
    unfold tickEnd
    dsimp only
    rw [hfirst, ← List.drop_one]
    rfl
  rw [htick, intSelect_eq]
  rfl

/-! ### The vertical blank -/

/-- An action of the pipeline that leaves `vblank` and the NMI request alone. -/
def KeepsVblank (f : Ppu → Ppu) : Prop :=
  ∀ q, (f q).vblank = q.vblank ∧ (f q).nmiRequest = q.nmiRequest

theorem KeepsVblank.comp {f g : Ppu → Ppu} (hf : KeepsVblank f) (hg : KeepsVblank g) :
    KeepsVblank (fun q => f (g q)) :=
  fun q => ⟨(hf _).1.trans (hg q).1, (hf _).2.trans (hg q).2⟩

theorem KeepsVblank.onlyIf {f : Ppu → Ppu} (hf : KeepsVblank f) (b : Bool) : KeepsVblank (onlyIf b f) :=
  fun p => onlyIf_keeps (P := fun q => q.vblank = p.vblank ∧ q.nmiRequest = p.nmiRequest)
    (fun q hq => ⟨(hf q).1.trans hq.1, (hf q).2.trans hq.2⟩) ⟨rfl, rfl⟩

theorem keepsVblank_loadShifters : KeepsVblank loadShifters := fun _ => ⟨rfl, rfl⟩
theorem keepsVblank_spriteEval (s : Int) : KeepsVblank (spriteEval s) := fun _ => ⟨rfl, rfl⟩
theorem keepsVblank_drawPixel (c : Cartridge) (s : Int) (k : Nat) : KeepsVblank (drawPixel c s k) :=
  fun _ => ⟨rfl, rfl⟩

theorem keepsVblank_bgStep (c : Cartridge) (k : Nat) : KeepsVblank (bgStep c k) := fun q => by
  obtain ⟨_, _, _, _, _, _, _, _, _, e⟩ := bgStep_eq c q k
  rw [e]; exact ⟨rfl, rfl⟩

theorem keepsVblank_incY : KeepsVblank incY := fun q => by
  obtain ⟨_, e⟩ := incY_eq q; rw [e]; exact ⟨rfl, rfl⟩

theorem keepsVblank_copyX : KeepsVblank copyX := fun q => by
  obtain ⟨_, e⟩ := copyX_eq q; rw [e]; exact ⟨rfl, rfl⟩

theorem keepsVblank_copyY : KeepsVblank copyY := fun q => by
  obtain ⟨_, e⟩ := copyY_eq q; rw [e]; exact ⟨rfl, rfl⟩

theorem keepsVblank_advance : KeepsVblank advance := fun q => by
  obtain ⟨_, _, e⟩ := advance_eq q; rw [e]; exact ⟨rfl, rfl⟩

/-- Off the position of `ClearFlags()` no step of a rendering scanline touches `vblank` (`63` R561). -/
theorem keepsVblank_renderSteps (c : Cartridge) {s : Int} {k : Nat} (h : ¬ (s = -1 ∧ k = 1)) :
    KeepsVblank (renderSteps c s k) := by
  have hcopyX := keepsVblank_copyX.comp keepsVblank_loadShifters
  unfold renderSteps
  rw [decide_eq_false h]
  exact ((keepsVblank_spriteEval s).onlyIf _).comp ((keepsVblank_copyY.onlyIf _).comp
    ((hcopyX.onlyIf _).comp ((keepsVblank_incY.onlyIf _).comp ((keepsVblank_bgStep c k).onlyIf _))))

variable {p : Ppu}

/-- Anywhere but at cycle 1 of scanlines 241 and -1 a clock leaves `vblank` and the NMI request alone. -/
theorem ppuClock_keeps_vblank (c : Cartridge) (hstart : ¬ (p.scanline = 241 ∧ p.cycle = 1))
    (hclear : ¬ (p.scanline = -1 ∧ p.cycle = 1)) :
    (ppuClock c p).vblank = p.vblank ∧ (ppuClock c p).nmiRequest = p.nmiRequest := by
  have hdraw := (keepsVblank_drawPixel c p.scanline p.cycle).onlyIf
  have hrender := (keepsVblank_renderSteps c hclear).onlyIf
  unfold ppuClock
  dsimp only
  rw [decide_eq_false hstart]
  exact keepsVblank_advance.comp ((hdraw _).comp (hrender _)) p

/-- At cycle 1 of scanline 241 a clock is `VblankStart()` and the advance (`63` R561, R566). -/
theorem ppuClock_at_vblankStart (c : Cartridge) (h : p.scanline = 241 ∧ p.cycle = 1) :
    ppuClock c p = advance (vblankStart p) := by
  unfold ppuClock
  rw [h.1, h.2]
  rfl

/-- At cycle 1 of the pre-render scanline a clock is `ClearFlags()` and the advance (`63` R561, R567). -/
theorem ppuClock_at_clearFlags (c : Cartridge) (h : p.scanline = -1 ∧ p.cycle = 1) :
    ppuClock c p = advance (clearFlags p) := by
  unfold ppuClock
  rw [h.1, h.2]
  rfl

/-- The NMI enable is the top bit of the control register (`62` R510). -/
theorem nmiEn_eq (p : Ppu) : p.nmiEn = decide (128 ≤ p.ctrl.toNat) := by
  have := p.ctrl.isLt
  rw [Ppu.nmiEn, getLsbD_eq_div, decide_eq_decide]
  omega

/-- Settles O50: a clock is one action and the advance at the two positions, and elsewhere keeps both fields. -/
theorem vblankOncePerFrame : Obligations.VblankOncePerFrame := by
  intro c p start clear
  by_cases hstart : start
  · have hclear : ¬ clear := fun h => absurd (hstart.1.symm.trans h.1) (by decide)
    obtain ⟨hv, hn⟩ := keepsVblank_advance (vblankStart p)
    rw [ppuClock_at_vblankStart c hstart, hv, hn, if_pos hstart, decide_eq_true hstart, ← nmiEn_eq]
    exact ⟨rfl, rfl, fun h => absurd h hclear⟩
  rw [if_neg hstart, decide_eq_false hstart, Bool.false_and, Bool.or_false]
  by_cases hclear : clear
  · obtain ⟨_, _, hadvance⟩ := advance_eq (clearFlags p)
    rw [ppuClock_at_clearFlags c hclear, hadvance, if_pos hclear]
    exact ⟨rfl, rfl, fun _ => ⟨rfl, rfl, rfl⟩⟩
  · obtain ⟨hv, hn⟩ := ppuClock_keeps_vblank c hstart hclear
    rw [if_neg hclear]
    exact ⟨hv, hn, fun h => absurd h hclear⟩

/-! ### The safety of a step -/

/-- The CPU's clock answers a next state: it waits, is Jammed, or executes an instruction (`40` R130). -/
theorem clock_safe (s : State) : Safe (clock s) := by
  cases hj : s.jammed with
  | true => exact ⟨_, clock_jammed s hj⟩
  | false =>
    by_cases hc : s.cycles = 0
    · obtain ⟨t, ht, -⟩ := everyInstructionCompletes (fetch s).1 (fetch s).2
      exact ⟨countDown t, by rw [clock_executes s hj hc, ht, andThen_next]⟩
    · exact ⟨_, clock_waits s hj hc⟩

theorem processorSlot_safe (m : Nat) (s : State) : Safe (processorSlot m s) := by
  cases hdma : s.dma.active with
  | true => exact ⟨_, processorSlot_dma s m hdma⟩
  | false =>
    rw [processorSlot_cpu s m hdma]
    exact clock_safe s

theorem tickBody_safe (s : State) : Safe (tickBody s) := by
  rw [tickBody_eq]
  split
  · exact processorSlot_safe _ _
  · exact ⟨_, rfl⟩

/-- Settles O59: the body of a tick answers a next state, and its end always does. -/
theorem stepsAreSafe : Obligations.StepsAreSafe := by
  intro s
  obtain ⟨u, hu⟩ := tickBody_safe s
  obtain ⟨t, ht⟩ := tickEnd_next u
  exact ⟨t, by rw [step, tick, hu, andThen_next, ht]⟩

end Sys2Proof.Machine

/-! ## The mapper, the DMA transfer and the reset

Cartridge space is read and written through the mapper (`61` R460 to R468). A slot of a transfer leaves everything
alone but the transfer, object memory and what a bus read can touch (`61` R472), so a step in which the CPU is not
clocked leaves the CPU as it was; and a transfer is 256 pairs of slots, behind an alignment slot where its first tick
is even. -/

namespace Sys2Proof.Machine

open Rule

/-! ### The mapper -/

/-- The index into program memory, as the rule gives it in numbers (`61` R460, R462, R463, R466). -/
theorem prgIndex_eq (c : Cartridge) (adr : Addr) : c.prgIndex adr = programIndex c adr.toNat := by
  have hlow : (adr &&& 0x3FFF#16).toNat = adr.toNat % 16384 := by
    rw [BitVec.toNat_and]
    exact Nat.and_two_pow_sub_one_eq_mod adr.toNat 14
  have hhalf : (adr &&& 0x7FFF#16).toNat = adr.toNat % 32768 := by
    rw [BitVec.toNat_and]
    exact Nat.and_two_pow_sub_one_eq_mod adr.toNat 15
  have hbank : adr ≤ 0xBFFF#16 ↔ adr.toNat < 0xC000 := Nat.lt_succ_iff.symm
  unfold Cartridge.prgIndex Cartridge.map programIndex
  cases c.mapper with
  | fixed => simp only [mapFixed, hlow, hhalf, Config.prgBankBytes]
  | switchable bank => simp only [mapSwitchable, hlow, hbank, Config.prgBankBytes]

/-- Settles O39: cartridge space is the mapper's, whose index is the rule's. -/
theorem mapperSelectsTheProgramByte : Obligations.MapperSelectsTheProgramByte := by
  intro s a ha
  rw [busValue_of_cart s a ha, cartRead, prgIndex_eq]
  rfl

/-- Settles O40: a write to cartridge space is `CartWrite`, which the fixed mapper ignores. -/
theorem bankSelectTakesTheLowNibble : Obligations.BankSelectTakesTheLowNibble := by
  intro s a v ha
  have hcart : memWrite s a v = s.setCart (cartWrite s.cart a v) := by
    rw [memWrite_eq, if_neg (by omega), if_neg (by omega), if_neg (by omega), if_neg (by omega)]
  have hnibble : v.extractLsb' 0 4 = BitVec.ofNat 4 (v.toNat % 16) := by
    apply BitVec.eq_of_toNat_eq
    simp [BitVec.extractLsb'_toNat]
  rw [hcart]
  cases hmapper : s.cart.mapper with
  | fixed =>
    rw [cartWrite, hmapper]
    rfl
  | switchable bank =>
    by_cases hreg : 0x8000 ≤ a.toNat
    · have hreg' : 0x8000#16 ≤ a := hreg
      simp only [cartWrite, hmapper, if_pos hreg, if_pos hreg', hnibble]
      rfl
    · rw [cartWrite_of_lt v s.cart (Nat.lt_of_not_le hreg)]
      exact (if_neg hreg).symm

/-! ### A slot of a transfer -/

/-- What a slot of a transfer leaves alone: the CPU, RAM, the cartridge, the OAM address, and what the end of a tick
looks at (`61` R472, R474). -/
structure SlotFrame (s t : State) : Prop where
  a          : t.a = s.a
  x          : t.x = s.x
  y          : t.y = s.y
  sp         : t.sp = s.sp
  pc         : t.pc = s.pc
  p          : t.p = s.p
  cycles     : t.cycles = s.cycles
  jammed     : t.jammed = s.jammed
  ram        : t.ram = s.ram
  cart       : t.cart = s.cart
  oamAddr    : t.ppu.oamAddr = s.ppu.oamAddr
  master     : t.master = s.master
  requests   : t.requests = s.requests
  nmiRequest : t.ppu.nmiRequest = s.ppu.nmiRequest

theorem SlotFrame.refl (s : State) : SlotFrame s s :=
  ⟨rfl, rfl, rfl, rfl, rfl, rfl, rfl, rfl, rfl, rfl, rfl, rfl, rfl, rfl⟩

theorem SlotFrame.trans {s t u : State} (h : SlotFrame s t) (g : SlotFrame t u) : SlotFrame s u :=
  ⟨g.a.trans h.a, g.x.trans h.x, g.y.trans h.y, g.sp.trans h.sp, g.pc.trans h.pc, g.p.trans h.p,
   g.cycles.trans h.cycles, g.jammed.trans h.jammed, g.ram.trans h.ram, g.cart.trans h.cart,
   g.oamAddr.trans h.oamAddr, g.master.trans h.master, g.requests.trans h.requests,
   g.nmiRequest.trans h.nmiRequest⟩

theorem slotFrame_setDma (s : State) (d : Dma) : SlotFrame s (s.setDma d) := { SlotFrame.refl s with }

theorem busEffect_oamAddr (s : State) (adr : Addr) : (busEffect s adr).ppu.oamAddr = s.ppu.oamAddr := by
  rw [readsHaveOnlyTheirSideEffects s adr]
  split
  · rfl
  split
  · rfl
  split <;> rfl

theorem slotFrame_busEffect (s : State) (adr : Addr) : SlotFrame s (busEffect s adr) :=
  ⟨busEffect_a s adr, busEffect_x s adr, busEffect_y s adr, busEffect_sp s adr, busEffect_pc s adr,
   busEffect_p s adr, busEffect_cycles s adr, busEffect_jammed s adr, busEffect_ram s adr, busEffect_cart s adr,
   busEffect_oamAddr s adr, busEffect_master s adr, busEffect_requests s adr, busEffect_nmiRequest s adr⟩

theorem slotFrame_dmaWriteSlot (s : State) : SlotFrame s (dmaWriteSlot s) := by
  unfold dmaWriteSlot
  dsimp only
  split
  · exact { SlotFrame.refl s with }
  · exact { SlotFrame.refl s with }

/-- The alignment slot only ends the alignment (`61` R473). -/
theorem dmaStep_align {m : Nat} {s : State} (hm : m % 2 = 0) (halign : s.dma.align = true) :
    dmaStep m s = s.setDma { s.dma with align := false } := by
  rw [dmaStep, if_pos ⟨halign, hm⟩]

/-- A slot on an odd tick reads (`61` R472, R473). -/
theorem dmaStep_read {m : Nat} (s : State) (hm : m % 2 = 1) :
    dmaStep m s = dmaReadSlot (s.setDma { s.dma with align := false }) := by
  rw [dmaStep, if_neg (by omega), if_pos hm]

/-- A slot on an even tick writes, once the transfer is aligned (`61` R472, R473). -/
theorem dmaStep_write {m : Nat} {s : State} (hm : m % 2 = 0) (halign : s.dma.align = false) :
    dmaStep m s = dmaWriteSlot (s.setDma { s.dma with align := false }) := by
  rw [dmaStep, if_neg (by simp [halign]), if_neg (by omega)]

theorem slotFrame_dmaStep (m : Nat) (s : State) : SlotFrame s (dmaStep m s) := by
  have haligned := slotFrame_setDma s { s.dma with align := false }
  by_cases hm : m % 2 = 1
  · rw [dmaStep_read s hm]
    exact haligned.trans ((slotFrame_busEffect _ _).trans (slotFrame_setDma _ _))
  have hm' : m % 2 = 0 := by omega
  cases halign : s.dma.align with
  | true => rw [dmaStep_align hm' halign]; exact haligned
  | false => rw [dmaStep_write hm' halign]; exact haligned.trans (slotFrame_dmaWriteSlot _)

/-! ### A tick without the CPU -/

/-- The body of a tick that does not clock the CPU is the picture processor's clock, with or without a slot of a
transfer (`64` R631). -/
theorem tickBody_without_cpu {s : State} (h : s.master % 3 ≠ 0 ∨ s.dma.active = true) :
    ∃ u, tickBody s = .next u ∧ SlotFrame (ppuTick s) u := by
  rw [tickBody_eq]
  by_cases hslot : s.master % 3 = 0
  · have hactive : (ppuTick s).dma.active = true := h.resolve_left (fun hne => hne hslot)
    rw [if_pos hslot, processorSlot_dma _ _ hactive]
    exact ⟨_, rfl, slotFrame_dmaStep _ _⟩
  · rw [if_neg hslot]
    exact ⟨_, rfl, .refl _⟩

/-- Settles O56: such a tick keeps the frame of a slot, and its end delivers nothing. -/
theorem cpuIsClockedOneTickInThree : Obligations.CpuIsClockedOneTickInThree := by
  intro s ⟨hrequests, hnmi⟩ h
  obtain ⟨u, hbody, hu⟩ := tickBody_without_cpu h
  have hend := tickEnd_quiet u (hu.requests.symm ▸ hrequests) (hu.nmiRequest.trans hnmi)
  refine ⟨_, by rw [step, tick, hbody, andThen_next, hend], ?_⟩
  exact ⟨hu.a, hu.x, hu.y, hu.sp, hu.pc, hu.p, hu.cycles, hu.jammed, hu.ram, hu.cart,
    congrArg (· + 1) hu.master⟩

/-! ### A whole transfer -/

theorem dmaSlots_cons (n m : Nat) (s : State) : dmaSlots (n + 1) m s = dmaSlots n (m + 3) (dmaStep m s) := rfl

/-- One more slot at the end of a transfer. -/
theorem dmaSlots_succ (n m : Nat) (s : State) : dmaSlots (n + 1) m s = dmaStep (m + 3 * n) (dmaSlots n m s) := by
  induction n generalizing m s with
  | zero => rfl
  | succ n ih =>
    calc dmaSlots (n + 2) m s
      _ = dmaSlots (n + 1) (m + 3) (dmaStep m s) := dmaSlots_cons _ _ _
      _ = dmaStep (m + 3 + 3 * n) (dmaSlots n (m + 3) (dmaStep m s)) := ih _ _
      _ = dmaStep (m + 3 * (n + 1)) (dmaSlots (n + 1) m s) := by
        rw [dmaSlots_cons, show m + 3 + 3 * n = m + 3 * (n + 1) by omega]

/-- An address in RAM or cartridge space reads the same from two machines with the same RAM and cartridge. -/
theorem busValue_of_memory {s t : State} (hram : t.ram = s.ram) (hcart : t.cart = s.cart) {adr : Addr}
    (h : adr.toNat < 0x2000 ∨ 0x4020 ≤ adr.toNat) : busValue t adr = busValue s adr := by
  rcases h with h | h
  · rw [busValue_eq, if_pos h, busValue_eq, if_pos h, hram]
  · rw [busValue_of_cart t adr h, busValue_of_cart s adr h, hcart]

/-- A page whose bytes are memory: no register of a device lies in it. -/
def memoryPage (page : Byte) : Prop := page.toNat < 0x20 ∨ 0x41 ≤ page.toNat

/-- Byte `k` of a page, from the machine `s`. -/
def pageByte (s : State) (page : Byte) (k : Nat) : Byte := busValue s (word (page.toNat * 256 + k))

/-- `t` is the machine `s` in a transfer from `page` whose first `j` bytes were copied. -/
structure Copied (s : State) (page : Byte) (j : Nat) (t : State) : Prop where
  frame  : SlotFrame s t
  source : t.dma.page = page
  offset : t.dma.offset = BitVec.ofNat 8 j
  active : t.dma.active = decide (j < 256)
  bytes  : memoryPage page → ∀ k < j, Memory.read t.ppu.oam k = pageByte s page k

section

variable {s t : State} {page : Byte} {j m : Nat}

/-- The source of byte `j` (`61` R472). -/
theorem Copied.dmaSource_eq (h : Copied s page j t) (hj : j < 256) :
    dmaSource t.dma = word (page.toNat * 256 + j) := by
  apply BitVec.eq_of_toNat_eq
  rw [dmaSource, toNat_wordOf, h.source, h.offset, BitVec.toNat_ofNat, BitVec.toNat_ofNat]
  have := page.isLt
  omega

/-- Byte `j` of a page of memory is read the same at every point of the transfer. -/
theorem Copied.busValue_dmaSource (h : Copied s page j t) (hj : j < 256) (hpage : memoryPage page) :
    busValue t (dmaSource t.dma) = pageByte s page j := by
  rw [h.dmaSource_eq hj]
  refine busValue_of_memory h.frame.ram h.frame.cart ?_
  have := page.isLt
  rw [BitVec.toNat_ofNat]
  unfold memoryPage at hpage
  omega

theorem Copied.setAligned (h : Copied s page j t) : Copied s page j (t.setDma { t.dma with align := false }) :=
  { h with frame := h.frame.trans (slotFrame_setDma t _) }

/-- The first slot of a pair leaves the transfer where it is, with byte `j` in the latch. -/
theorem Copied.read (h : Copied s page j t) (hj : j < 256) (hm : m % 2 = 1) :
    Copied s page j (dmaStep m t) ∧ (dmaStep m t).dma.align = false ∧
      (memoryPage page → (dmaStep m t).dma.data = pageByte s page j) := by
  have hframe := h.frame.trans (slotFrame_dmaStep m t)
  have hlatch := h.setAligned.busValue_dmaSource hj
  rw [dmaStep_read t hm] at hframe ⊢
  generalize hu : t.setDma { t.dma with align := false } = u at hframe hlatch ⊢
  have hdma : (busEffect u (dmaSource u.dma)).dma = { t.dma with align := false } := by
    rw [busEffect_dma, ← hu, State.setDma_dma]
  have hoam : (busEffect u (dmaSource u.dma)).ppu.oam = t.ppu.oam := by
    rw [(storesNothing_busEffect u _).oam, ← hu, State.setDma_ppu]
  unfold dmaReadSlot memRead at hframe ⊢
  dsimp only at hframe ⊢
  rw [hdma] at hframe ⊢
  refine ⟨⟨hframe, h.source, h.offset, h.active, ?_⟩, rfl, hlatch⟩
  rw [State.setDma_ppu, hoam]
  exact h.bytes

/-- The second slot of a pair writes the latch to object memory, at index `j`; the last one ends the transfer. -/
theorem Copied.write (h : Copied s page j t) (hj : j < 256) (hm : m % 2 = 0) (halign : t.dma.align = false)
    (hlatch : memoryPage page → t.dma.data = pageByte s page j) : Copied s page (j + 1) (dmaStep m t) := by
  have hframe := h.frame.trans (slotFrame_dmaStep m t)
  have hindex : t.dma.offset.toNat = j := by
    rw [h.offset, BitVec.toNat_ofNat, Nat.mod_eq_of_lt hj]
  have hnext : t.dma.offset + 1 = BitVec.ofNat 8 (j + 1) := by
    rw [h.offset, BitVec.ofNat_add]
    rfl
  have hbytes : memoryPage page → ∀ k < j + 1,
      Memory.read (Memory.write t.ppu.oam t.dma.offset.toNat t.dma.data) k = pageByte s page k := by
    intro hpage k hk
    rw [hindex, Memory.read_write]
    split
    · rename_i hjk
      rw [hlatch hpage, hjk]
    · exact h.bytes hpage k (by omega)
  have hlast : BitVec.ofNat 8 (j + 1) = 0 ↔ j + 1 = 256 := by
    rw [← BitVec.toNat_inj, BitVec.toNat_ofNat]
    show (j + 1) % 256 = 0 ↔ _
    omega
  rw [dmaStep_write hm halign] at hframe ⊢
  unfold dmaWriteSlot at hframe ⊢
  dsimp only [State.setDma_dma] at hframe ⊢
  rw [hnext] at hframe ⊢
  split at hframe
  · rename_i hzero
    have : ¬ j + 1 < 256 := by have := hlast.mp hzero; omega
    rw [if_pos hzero]
    exact ⟨hframe, h.source, rfl, (decide_eq_false this).symm, hbytes⟩
  · rename_i hzero
    have : j + 1 < 256 := by have := mt hlast.mpr hzero; omega
    rw [if_neg hzero]
    exact ⟨hframe, h.source, rfl, h.active.trans (by simp [hj, this]), hbytes⟩

/-- From an odd tick on, `j` pairs of slots copy `j` bytes. -/
theorem Copied.pairs (h : Copied s page 0 t) (hm : m % 2 = 1) (hj : j ≤ 256) :
    Copied s page j (dmaSlots (2 * j) m t) := by
  induction j with
  | zero => exact h
  | succ j ih =>
    obtain ⟨hread, halign, hlatch⟩ := (ih (by omega)).read (m := m + 3 * (2 * j)) (by omega) (by omega)
    have hwrite := hread.write (m := m + 3 * (2 * j + 1)) (by omega) (by omega) halign hlatch
    rw [← dmaSlots_succ, ← dmaSlots_succ] at hwrite
    exact hwrite

/-- From an odd tick on, the transfer is active for 512 slots. -/
theorem Copied.active_of_lt (h : Copied s page 0 t) (hm : m % 2 = 1) {k : Nat} (hk : k < 2 * 256) :
    (dmaSlots k m t).dma.active = true := by
  have hpairs : Copied s page (k / 2) (dmaSlots (2 * (k / 2)) m t) := h.pairs hm (by omega)
  rcases Nat.mod_two_eq_zero_or_one k with hk2 | hk2
  · rw [show 2 * (k / 2) = k by omega] at hpairs
    exact hpairs.active.trans (decide_eq_true (by omega))
  · obtain ⟨hread, -, -⟩ := hpairs.read (m := m + 3 * (2 * (k / 2))) (by omega) (by omega)
    rw [← dmaSlots_succ, show 2 * (k / 2) + 1 = k by omega] at hread
    exact hread.active.trans (decide_eq_true (by omega))

end

/-- The slots of a transfer whose first slot falls on tick `m`: one more where `m` is even (`61` R473). -/
def transferSlots (m : Nat) : Nat := if m % 2 = 1 then 512 else 513

/-- A requested transfer, whole: active until its last slot, and then the page was copied. -/
theorem Copied.transfer {s t : State} {page : Byte} (h : Copied s page 0 t) (halign : t.dma.align = true) (m : Nat) :
    (∀ k < transferSlots m, (dmaSlots k m t).dma.active = true) ∧
      Copied s page 256 (dmaSlots (transferSlots m) m t) := by
  unfold transferSlots
  by_cases hm : m % 2 = 1
  · rw [if_pos hm, show 512 = 2 * 256 from rfl]
    exact ⟨fun _ hk => h.active_of_lt hm hk, h.pairs hm (le_refl 256)⟩
  · have hfirst : Copied s page 0 (dmaStep m t) := by
      rw [dmaStep_align (by omega) halign]
      exact h.setAligned
    have hm3 : (m + 3) % 2 = 1 := by omega
    rw [if_neg hm, show 513 = 2 * 256 + 1 from rfl]
    refine ⟨fun k hk => ?_, ?_⟩
    · cases k with
      | zero => exact h.active
      | succ k => exact hfirst.active_of_lt hm3 (Nat.lt_of_succ_lt_succ hk)
    · rw [dmaSlots_cons]
      exact hfirst.pairs hm3 (le_refl 256)

/-- Settles O55: a write to 0x4014 begins a transfer with nothing copied. -/
theorem dmaCopiesOnePage : Obligations.DmaCopiesOnePage := by
  intro s page m u n t
  have hu : u = s.setDma (dmaRequest page s.dma) := memWrite_eq s page 0x4014#16
  have hstart : Copied s page 0 u := by
    rw [hu]
    exact ⟨slotFrame_setDma s _, rfl, rfl, rfl, fun _ k hk => absurd hk (Nat.not_lt_zero k)⟩
  obtain ⟨hactive, hend⟩ := hstart.transfer (by rw [hu]; rfl) m
  have hframe := hend.frame
  exact ⟨hu, hactive, hend.active, hframe.ram, hframe.cart, hframe.a, hframe.x, hframe.y, hframe.sp, hframe.pc,
    hframe.p, hframe.cycles, hframe.oamAddr, hend.bytes⟩

/-! ### Reset -/

/-- `reset()`, whole: the vector lies in cartridge space, where a read has no effect (`70` R661). -/
theorem cpuReset_eq (s : State) :
    cpuReset s =
      { s with
        a := 0x00#8, x := 0x00#8, y := 0x00#8, sp := 0xFD#8, p := 0x20#8, pc := vector s 0xFFFC,
        cycles := 8, jammed := false } := by
  unfold cpuReset
  rw [readVector_eq _ _ (by decide) (by decide), vector_eq s (by decide) (by decide)]
  rfl

/-- `SystemReset()`, whole, with its vector (`64` R640, `70` R661). -/
theorem systemReset_rule (s : State) :
    systemReset s =
      { s with
        a := 0x00#8, x := 0x00#8, y := 0x00#8, sp := 0xFD#8, p := 0x20#8, cycles := 8, jammed := false,
        pc := vector { s with cart := { s.cart with mapper := s.cart.mapper.reset } } 0xFFFC, master := 0,
        dma := Dma.reset, cart := { s.cart with mapper := s.cart.mapper.reset }, ppu := ppuReset s.ppu } := by
  unfold systemReset
  rw [cpuReset_eq]
  rfl

/-- A second reset meets the same cartridge, so it reads the same vector. -/
theorem systemReset_systemReset (s : State) : systemReset (systemReset s) = systemReset s := by
  have hmapper : s.cart.mapper.reset.reset = s.cart.mapper.reset := by cases s.cart.mapper <;> rfl
  rw [systemReset_rule (systemReset s), systemReset_rule s]
  dsimp only
  rw [hmapper, vector_eq _ (by decide) (by decide), vector_eq _ (by decide) (by decide)]
  rfl

/-- Settles O36: both resets, whole, and the second one on what the first left. -/
theorem resetInstallsItsValues : Obligations.ResetInstallsItsValues := by
  intro s
  refine ⟨cpuReset_eq s, ⟨{ s.cart with mapper := s.cart.mapper.reset }, ?_, systemReset_rule s⟩,
    systemReset_systemReset s⟩
  cases s.cart.mapper <;> rfl

end Sys2Proof.Machine

/-! ## The registers of the picture processor

The fields of a scroll register are digits of its number (`10` R38), so a register that replaces fields writes a
number made of theirs (`62` R510, R513, R517). -/

namespace Sys2Proof.Machine

open Rule

/-! ### Bits and parts of a register as numbers -/

theorem toNat_getLsbD {n : Nat} (x : BitVec n) (i : Nat) : (x.getLsbD i).toNat = x.toNat / 2 ^ i % 2 :=
  Nat.toNat_testBit x.toNat i

theorem toNat_bool_inj {a b : Bool} (h : a.toNat = b.toNat) : a = b := by
  revert a b
  decide

/-- Two parts of a register side by side, as a number. -/
theorem toNat_append_eq {m n : Nat} (x : BitVec m) (y : BitVec n) : (x ++ y).toNat = x.toNat * 2 ^ n + y.toNat := by
  rw [BitVec.toNat_append, ← Nat.shiftLeft_add_eq_or_of_lt y.isLt, Nat.shiftLeft_eq]

/-- The high part of a register, masked. -/
theorem toNat_and_highMask {n : Nat} (x : BitVec n) (k : Nat) :
    (x &&& BitVec.allOnes n <<< k).toNat = x.toNat / 2 ^ k * 2 ^ k := by
  have hdrop : x &&& BitVec.allOnes n <<< k = (x >>> k) <<< k := by
    ext i hi
    by_cases hk : i < k
    · simp [hk]
    · have hback : k + (i - k) = i := by omega
      simp [hk, hback, BitVec.getLsbD_eq_getElem hi]
  have hle : x.toNat / 2 ^ k * 2 ^ k < 2 ^ n := Nat.lt_of_le_of_lt (Nat.div_mul_le_self _ _) x.isLt
  rw [hdrop, BitVec.toNat_shiftLeft, BitVec.toNat_ushiftRight, Nat.shiftRight_eq_div_pow, Nat.shiftLeft_eq,
    Nat.mod_eq_of_lt hle]

/-! ### The fields of a scroll register as numbers -/

section

variable (v : BitVec 15)

theorem Loopy.toNat_cx : (Loopy.cx v).toNat = v.toNat % 32 := by
  rw [Loopy.cx, BitVec.extractLsb'_toNat, Nat.shiftRight_zero]

theorem Loopy.toNat_cy : (Loopy.cy v).toNat = v.toNat / 32 % 32 := by
  rw [Loopy.cy, BitVec.extractLsb'_toNat, Nat.shiftRight_eq_div_pow]

theorem Loopy.toNat_nx : (Loopy.nx v).toNat = v.toNat / 1024 % 2 := toNat_getLsbD v 10

theorem Loopy.toNat_ny : (Loopy.ny v).toNat = v.toNat / 2048 % 2 := toNat_getLsbD v 11

theorem Loopy.toNat_fy : (Loopy.fy v).toNat = v.toNat / 4096 := by
  have := v.isLt
  rw [Loopy.fy, BitVec.extractLsb'_toNat, Nat.shiftRight_eq_div_pow]
  omega

end

section

variable (fy : BitVec 3) (ny nx : Bool) (cy cx : BitVec 5)

theorem Loopy.toNat_pack :
    (Loopy.pack fy ny nx cy cx).toNat =
      fy.toNat * 4096 + ny.toNat * 2048 + nx.toNat * 1024 + cy.toNat * 32 + cx.toNat := by
  unfold Loopy.pack
  simp only [toNat_append_eq, BitVec.toNat_ofBool]
  omega

theorem Loopy.pack_eq :
    Loopy.pack fy ny nx cy cx =
      BitVec.ofNat 15 (fy.toNat * 4096 + ny.toNat * 2048 + nx.toNat * 1024 + cy.toNat * 32 + cx.toNat) := by
  rw [← Loopy.toNat_pack, BitVec.ofNat_toNat, BitVec.setWidth_eq]

@[simp] theorem Loopy.cx_pack : Loopy.cx (Loopy.pack fy ny nx cy cx) = cx := by
  apply BitVec.eq_of_toNat_eq
  rw [Loopy.toNat_cx, Loopy.toNat_pack]
  omega

@[simp] theorem Loopy.cy_pack : Loopy.cy (Loopy.pack fy ny nx cy cx) = cy := by
  apply BitVec.eq_of_toNat_eq
  rw [Loopy.toNat_cy, Loopy.toNat_pack]
  omega

@[simp] theorem Loopy.nx_pack : Loopy.nx (Loopy.pack fy ny nx cy cx) = nx := by
  apply toNat_bool_inj
  have := nx.toNat_lt
  rw [Loopy.toNat_nx, Loopy.toNat_pack]
  omega

@[simp] theorem Loopy.ny_pack : Loopy.ny (Loopy.pack fy ny nx cy cx) = ny := by
  apply toNat_bool_inj
  have := nx.toNat_lt
  have := ny.toNat_lt
  rw [Loopy.toNat_ny, Loopy.toNat_pack]
  omega

@[simp] theorem Loopy.fy_pack : Loopy.fy (Loopy.pack fy ny nx cy cx) = fy := by
  apply BitVec.eq_of_toNat_eq
  have := nx.toNat_lt
  have := ny.toNat_lt
  rw [Loopy.toNat_fy, Loopy.toNat_pack]
  omega

end

/-! ### What the writes of the registers put into them -/

section

variable (t : BitVec 15) (d : Byte)

/-- The control register's nametable bits (`62` R510). -/
theorem setNy_setNx_eq :
    Loopy.setNy (Loopy.setNx t (d.getLsbD 0)) (d.getLsbD 1) =
      BitVec.ofNat 15 (t.toNat / 4096 * 4096 + d.toNat % 4 * 1024 + t.toNat % 1024) := by
  have h0 : (d.getLsbD 0).toNat = d.toNat / 1 % 2 := toNat_getLsbD d 0
  have h1 : (d.getLsbD 1).toNat = d.toNat / 2 % 2 := toNat_getLsbD d 1
  simp only [Loopy.setNy, Loopy.setNx, Loopy.cx_pack, Loopy.cy_pack, Loopy.nx_pack, Loopy.fy_pack]
  simp only [Loopy.pack_eq, Loopy.toNat_fy, Loopy.toNat_cy, Loopy.toNat_cx, h0, h1]
  exact congrArg (BitVec.ofNat 15) (by omega)

theorem toNat_extractLow3 : (d.extractLsb' 0 3).toNat = d.toNat % 8 := by
  rw [BitVec.extractLsb'_toNat, Nat.shiftRight_zero]

theorem toNat_extractHigh5 : (d.extractLsb' 3 5).toNat = d.toNat / 8 := by
  have := d.isLt
  rw [BitVec.extractLsb'_toNat, Nat.shiftRight_eq_div_pow]
  omega

/-- The first scroll write: coarse-X (`62` R513). -/
theorem setCx_eq : Loopy.setCx t (d.extractLsb' 3 5) = BitVec.ofNat 15 (t.toNat / 32 * 32 + d.toNat / 8) := by
  have := t.isLt
  simp only [Loopy.setCx, Loopy.pack_eq, Loopy.toNat_fy, Loopy.toNat_ny, Loopy.toNat_nx, Loopy.toNat_cy,
    toNat_extractHigh5]
  exact congrArg (BitVec.ofNat 15) (by omega)

/-- The second scroll write: coarse-Y and fine-Y (`62` R513). -/
theorem setCy_setFy_eq :
    Loopy.setCy (Loopy.setFy t (d.extractLsb' 0 3)) (d.extractLsb' 3 5) =
      BitVec.ofNat 15 (d.toNat % 8 * 4096 + t.toNat / 1024 % 4 * 1024 + d.toNat / 8 * 32 + t.toNat % 32) := by
  simp only [Loopy.setCy, Loopy.setFy, Loopy.cx_pack, Loopy.nx_pack, Loopy.ny_pack, Loopy.fy_pack]
  simp only [Loopy.pack_eq, Loopy.toNat_ny, Loopy.toNat_nx, Loopy.toNat_cx, toNat_extractLow3, toNat_extractHigh5]
  exact congrArg (BitVec.ofNat 15) (by omega)

/-- The first write of the address: its high six bits, bit 14 cleared (`62` R517). -/
theorem addrHigh_eq :
    (0#1 ++ d.extractLsb' 0 6 ++ t.extractLsb' 0 8 : BitVec 15) =
      BitVec.ofNat 15 (d.toNat % 64 * 256 + t.toNat % 256) := by
  apply BitVec.eq_of_toNat_eq
  simp only [toNat_append_eq, BitVec.extractLsb'_toNat, Nat.shiftRight_zero, BitVec.toNat_ofNat]
  omega

/-- The second write of the address: its low byte (`62` R517). -/
theorem addrLow_eq : (t.extractLsb' 8 7 ++ d : BitVec 15) = BitVec.ofNat 15 (t.toNat / 256 * 256 + d.toNat) := by
  have := t.isLt
  have := d.isLt
  apply BitVec.eq_of_toNat_eq
  simp only [toNat_append_eq, BitVec.extractLsb'_toNat, Nat.shiftRight_eq_div_pow, BitVec.toNat_ofNat]
  omega

end

/-! ### The obligations on the registers -/

theorem toNat_statusValue (s : State) :
    (statusValue s).toNat = s.ppu.vblank.toNat * 128 + s.ppu.spr0hit.toNat * 64 + s.ppu.sprovf.toNat * 32
      + (Config.statusLow s.draws).toNat := by
  unfold statusValue
  simp only [toNat_append_eq, BitVec.toNat_ofBool]
  omega

/-- The three flags of a status read (`62` R512). -/
theorem statusValue_flags (s : State) :
    (statusValue s).getLsbD 7 = s.ppu.vblank ∧ (statusValue s).getLsbD 6 = s.ppu.spr0hit
      ∧ (statusValue s).getLsbD 5 = s.ppu.sprovf := by
  have hlow := (Config.statusLow s.draws).isLt
  have hv := s.ppu.vblank.toNat_le
  have hh := s.ppu.spr0hit.toNat_le
  have ho := s.ppu.sprovf.toNat_le
  refine ⟨toNat_bool_inj ?_, toNat_bool_inj ?_, toNat_bool_inj ?_⟩
  all_goals
    rw [toNat_getLsbD, toNat_statusValue]
    omega

/-- Settles O43: each register by its number, at every mirror. -/
theorem registerWindow : Obligations.RegisterWindow := by
  intro s a d hlo hhi
  have hreg : ∀ n : BitVec 3, a.toNat % 8 = n.toNat → ppuRegOf a = n := fun n => (ppuRegOf_eq_iff a n).mpr
  rw [memWrite_of_ppu s d hlo hhi, busValue_of_ppu s hlo hhi]
  refine ⟨fun h => ?_, fun h => ?_, fun h => ?_, fun h => ?_, fun h => ?_, fun h2 h4 h7 => ?_⟩
  · rw [hreg 0 h, ← setNy_setNx_eq]
    rfl
  · rw [hreg 1 h]
    rfl
  · rw [hreg 2 h]
    exact ⟨rfl, statusValue_flags s⟩
  · rw [hreg 3 h]
    rfl
  · have hnext : BitVec.ofNat 8 (s.ppu.oamAddr.toNat + 1) = s.ppu.oamAddr + 1 := by
      rw [BitVec.ofNat_add, BitVec.ofNat_toNat, BitVec.setWidth_eq]
      rfl
    rw [hreg 4 h, hnext]
    exact ⟨rfl, rfl⟩
  · have hne : ∀ n : BitVec 3, a.toNat % 8 ≠ n.toNat → ppuRegOf a ≠ n := fun n => mt (ppuRegOf_eq_iff a n).mp
    rw [ppuRegValue, if_neg (hne 2 h2), if_neg (hne 4 h4), if_neg (hne 7 h7)]

/-- Settles O44: `ScrollWrite` and `AddrWrite`, each in both states of the write toggle. -/
theorem twoWriteRegisters : Obligations.TwoWriteRegisters := by
  intro s a d hlo hhi
  have hreg : ∀ n : BitVec 3, a.toNat % 8 = n.toNat → ppuRegOf a = n := fun n => (ppuRegOf_eq_iff a n).mpr
  have hfine : (d.extractLsb' 0 3).setWidth 8 = BitVec.ofNat 8 (d.toNat % 8) := by
    apply BitVec.eq_of_toNat_eq
    rw [BitVec.toNat_setWidth, toNat_extractLow3, BitVec.toNat_ofNat]
  rw [memWrite_of_ppu s d hlo hhi]
  refine ⟨fun h => ?_, fun h => ?_⟩
  · have hwrite : ppuRegWrite s 5 d = s.setPpu (scrollWrite d s.ppu) := rfl
    rw [hreg 5 h, hwrite, scrollWrite, ← setCy_setFy_eq, ← setCx_eq, ← hfine]
    cases s.ppu.w <;> rfl
  · have hwrite : ppuRegWrite s 6 d = s.setPpu (addrWrite d s.ppu) := rfl
    rw [hreg 6 h, hwrite, addrWrite, ← addrLow_eq, ← addrHigh_eq]
    cases s.ppu.w <;> rfl

end Sys2Proof.Machine

/-! ## PPU space

An address of PPU space names a bank and an index into it (`62` R529 to R534): a read and a write go through these
two, and two addresses name the same byte where both agree. -/

namespace Sys2Proof.Machine

open Rule

/-- The banks of PPU space: pattern memory, the two nametables, the palette (`62` R530). -/
inductive PpuBank
  | pattern
  | nametable (second : Bool)
  | palette

/-- The memory behind a bank. -/
def PpuBank.memory (c : Cartridge) (p : Ppu) : PpuBank → Memory
  | .pattern => c.chr
  | .nametable second => if second then p.nt1 else p.nt0
  | .palette => p.pal

/-- The bank of an address, under the cartridge's wiring (`62` R530, R533). -/
def bankOf (m : Mirroring) (adr : BitVec 14) : PpuBank :=
  if adr < 0x2000#14 then .pattern else if adr < 0x3F00#14 then .nametable (ntSelect m adr) else .palette

/-- The index of an address into its bank (`62` R530, R534). -/
def bankIndex (adr : BitVec 14) : Nat :=
  if adr < 0x2000#14 then adr.toNat else if adr < 0x3F00#14 then ntOffset adr else palIndex adr

theorem ppuRead_eq (c : Cartridge) (p : Ppu) (adr : BitVec 14) :
    ppuRead c p adr = Memory.read ((bankOf c.mirroring adr).memory c p) (bankIndex adr) := by
  unfold ppuRead bankOf bankIndex
  split
  · rfl
  split
  · rfl
  · rfl

section

variable {s : State} {adr : BitVec 14} (d : Byte)

/-- A write lands in the bank of its address, unless that is pattern ROM (`62` R531, R532). -/
theorem memory_bankOf_ppuWrite (h : 0x2000 ≤ adr.toNat ∨ s.cart.chrBanks = 0) :
    (bankOf s.cart.mirroring adr).memory (ppuWrite s adr d).cart (ppuWrite s adr d).ppu =
      Memory.write ((bankOf s.cart.mirroring adr).memory s.cart s.ppu) (bankIndex adr) d := by
  unfold ppuWrite bankOf bankIndex
  by_cases hpat : adr < 0x2000#14
  · have hram : s.cart.chrBanks = 0 := h.resolve_left (Nat.not_le.mpr hpat)
    simp only [if_pos hpat, if_pos hram]
    rfl
  simp only [if_neg hpat]
  by_cases hnt : adr < 0x3F00#14
  · simp only [if_pos hnt]
    cases ntSelect s.cart.mirroring adr <;> rfl
  · simp only [if_neg hnt]
    rfl

/-- A write leaves every other bank as it was. -/
theorem memory_ppuWrite_other {bank : PpuBank} (h : bank ≠ bankOf s.cart.mirroring adr) :
    bank.memory (ppuWrite s adr d).cart (ppuWrite s adr d).ppu = bank.memory s.cart s.ppu := by
  unfold bankOf at h
  unfold ppuWrite
  by_cases hpat : adr < 0x2000#14
  · rw [if_pos hpat] at h ⊢
    split
    · cases bank with
      | pattern => exact absurd rfl h
      | nametable second => rfl
      | palette => rfl
    · rfl
  rw [if_neg hpat] at h ⊢
  by_cases hnt : adr < 0x3F00#14
  · rw [if_pos hnt] at h ⊢
    cases bank with
    | pattern => split <;> rfl
    | palette => split <;> rfl
    | nametable second =>
      have hother : second = !ntSelect s.cart.mirroring adr := Bool.eq_not.mpr fun e => h (congrArg _ e)
      rw [hother]
      cases ntSelect s.cart.mirroring adr <;> rfl
  · rw [if_neg hnt] at h ⊢
    cases bank with
    | pattern => rfl
    | nametable second => rfl
    | palette => exact absurd rfl h

theorem ppuWrite_mirroring (adr : BitVec 14) : (ppuWrite s adr d).cart.mirroring = s.cart.mirroring := by
  rcases ppuWrite_cart s adr d with h | ⟨-, -, h⟩
  · rw [h]
  · rw [h]

theorem ppuWrite_rom (hpat : adr.toNat < 0x2000) (hrom : s.cart.chrBanks ≠ 0) : ppuWrite s adr d = s := by
  have hpat' : adr < 0x2000#14 := hpat
  rw [ppuWrite, if_pos hpat', if_neg hrom]

end

/-! ### Addresses of the same byte -/

theorem ntOffset_eq (adr : BitVec 14) : ntOffset adr = adr.toNat % 1024 := by
  rw [ntOffset, BitVec.toNat_and]
  exact Nat.and_two_pow_sub_one_eq_mod adr.toNat 10

/-- The palette's aliases are every fourth entry of its upper half (`62` R534). -/
theorem palIndex_eq (adr : BitVec 14) : palIndex adr = paletteEntry adr.toNat := by
  have hlow : (adr &&& 0x1F#14).toNat = adr.toNat % 32 := by
    rw [BitVec.toNat_and]
    exact Nat.and_two_pow_sub_one_eq_mod adr.toNat 5
  unfold palIndex paletteEntry
  rw [hlow]
  dsimp only
  split <;> split <;> omega

/-- Nametable addresses with the same index into the same table (`62` R533). -/
theorem sameNametable_iff (m : Mirroring) (a b : BitVec 14) :
    sameNametable m a.toNat b.toNat ↔ ntSelect m a = ntSelect m b ∧ ntOffset a = ntOffset b := by
  have hbit : ∀ i, a.getLsbD i = b.getLsbD i ↔ a.toNat / 2 ^ i % 2 = b.toNat / 2 ^ i % 2 := fun i => by
    rw [← toNat_getLsbD, ← toNat_getLsbD]
    exact ⟨congrArg _, toNat_bool_inj⟩
  rw [ntOffset_eq, ntOffset_eq]
  cases m with
  | horizontal => exact (and_congr Iff.rfl (hbit 11).symm).trans and_comm
  | vertical => exact (and_congr Iff.rfl (hbit 10).symm).trans and_comm

/-- Two addresses name the same byte where they name the same index of the same bank: each pair of regions. -/
theorem samePpuByte_iff (m : Mirroring) (a b : BitVec 14) :
    samePpuByte m a.toNat b.toNat ↔ bankOf m a = bankOf m b ∧ bankIndex a = bankIndex b := by
  have hlt : ∀ (x : BitVec 14) (n : Nat), n < 2 ^ 14 → (x < BitVec.ofNat 14 n ↔ x.toNat < n) := fun x n hn => by
    rw [BitVec.lt_def, BitVec.toNat_ofNat, Nat.mod_eq_of_lt hn]
  have hzone : ∀ x : BitVec 14, x.toNat < 0x2000 ∧ x.toNat < 0x3F00 ∨ ¬ x.toNat < 0x2000 ∧ x.toNat < 0x3F00
      ∨ ¬ x.toNat < 0x2000 ∧ ¬ x.toNat < 0x3F00 := by omega
  unfold samePpuByte bankOf bankIndex
  simp only [hlt _ 0x2000 (by decide), hlt _ 0x3F00 (by decide), sameNametable_iff, palIndex_eq]
  rcases hzone a with ha | ha | ha
  · rcases hzone b with hb | hb | hb
    · simp [ha, hb, BitVec.toNat_inj]
    · simp [ha, hb]
      omega
    · simp [ha, hb]
      omega
  · rcases hzone b with hb | hb | hb <;> simp [ha, hb]
    omega
  · rcases hzone b with hb | hb | hb <;> simp [ha, hb] <;> omega

/-- Settles O46: a write changes one index of one bank, and an address names one. -/
theorem ppuSpaceIsMirrored : Obligations.PpuSpaceIsMirrored := by
  intro s a b d t
  refine ⟨fun hwritable => ?_, ppuWrite_rom d⟩
  rw [samePpuByte_iff, ppuRead_eq, ppuRead_eq, ppuWrite_mirroring]
  by_cases hbank : bankOf s.cart.mirroring b = bankOf s.cart.mirroring a
  · rw [hbank, memory_bankOf_ppuWrite d hwritable, Memory.read_write]
    exact ⟨fun h => if_pos h.2, fun h => if_neg fun hindex => h ⟨rfl, hindex⟩⟩
  · rw [memory_ppuWrite_other d hbank]
    exact ⟨fun h => absurd h.1.symm hbank, fun _ => rfl⟩

end Sys2Proof.Machine

/-! ## Fetch addresses

The address of a fetch joins parts that do not overlap, so it is their sum (`63` R572 to R575, R601). -/

namespace Sys2Proof.Machine

open Rule

/-- Two parts of an address that do not overlap, as a sum. -/
theorem toNat_or_eq_add {n : Nat} {x y : BitVec n} (i : Nat) (hx : x.toNat % 2 ^ i = 0) (hy : y.toNat < 2 ^ i) :
    (x ||| y).toNat = x.toNat + y.toNat := by
  obtain ⟨k, hk⟩ := Nat.dvd_of_mod_eq_zero hx
  rw [BitVec.toNat_or, hk, Nat.two_pow_add_eq_or_of_lt hy]

section

variable (v : BitVec 15)

theorem nametableAddr_eq : nametableAddr v = BitVec.ofNat 14 (0x2000 + v.toNat % 4096) := by
  have hlow : ((v.extractLsb' 0 12).setWidth 14 : BitVec 14).toNat = v.toNat % 4096 := by
    rw [BitVec.toNat_setWidth, BitVec.extractLsb'_toNat, Nat.shiftRight_zero]
    omega
  apply BitVec.eq_of_toNat_eq
  rw [nametableAddr, toNat_or_eq_add 12 (by decide) (by omega), hlow, BitVec.toNat_ofNat, BitVec.toNat_ofNat]
  omega

/-- The start of the colour bytes of a nametable (`63` R573). -/
theorem toNat_attributeBase (ny nx : Bool) :
    (0x23C0#14 ||| ((BitVec.ofBool ny).setWidth 14 <<< 11) ||| ((BitVec.ofBool nx).setWidth 14 <<< 10)).toNat =
      0x23C0 + ny.toNat * 2048 + nx.toNat * 1024 := by
  cases ny <;> cases nx <;> rfl

theorem attributeAddr_eq :
    attributeAddr v =
      BitVec.ofNat 14 (0x23C0 + v.toNat / 1024 % 4 * 1024 + v.toNat / 32 % 32 / 4 * 8 + v.toNat % 32 / 4) := by
  have hny := (Loopy.ny v).toNat_le
  have hnx := (Loopy.nx v).toNat_le
  have hnt : (Loopy.ny v).toNat * 2 + (Loopy.nx v).toNat = v.toNat / 1024 % 4 := by
    rw [Loopy.toNat_ny, Loopy.toNat_nx]
    omega
  have hbase := toNat_attributeBase (Loopy.ny v) (Loopy.nx v)
  have hrow : (((Loopy.cy v).setWidth 14 >>> 2) <<< 3 : BitVec 14).toNat = v.toNat / 32 % 32 / 4 * 8 := by
    rw [BitVec.toNat_shiftLeft, BitVec.toNat_ushiftRight, BitVec.toNat_setWidth, Loopy.toNat_cy,
      Nat.shiftLeft_eq, Nat.shiftRight_eq_div_pow]
    omega
  have hcol : ((Loopy.cx v).setWidth 14 >>> 2 : BitVec 14).toNat = v.toNat % 32 / 4 := by
    rw [BitVec.toNat_ushiftRight, BitVec.toNat_setWidth, Loopy.toNat_cx, Nat.shiftRight_eq_div_pow]
    omega
  have hupper := toNat_or_eq_add 6 (by rw [hbase]; omega) (by rw [hrow]; omega)
  rw [hbase, hrow] at hupper
  apply BitVec.eq_of_toNat_eq
  rw [attributeAddr, toNat_or_eq_add 3 (by rw [hupper]; omega) (by omega), hupper, hcol,
    BitVec.toNat_ofNat]
  omega

/-- A tile's two bits of a colour byte, by the quadrant it lies in (`63` R573). -/
theorem toNat_attributeBits (b : Byte) :
    ((b >>> attributeShift v).extractLsb' 0 2).toNat =
      b.toNat / (if v.toNat / 32 % 32 / 2 % 2 = 1 then 16 else 1)
        / (if v.toNat % 32 / 2 % 2 = 1 then 4 else 1) % 4 := by
  have hcy : (Loopy.cy v).getLsbD 1 = decide (v.toNat / 32 % 32 / 2 % 2 = 1) := by
    rw [BitVec.getLsbD, Nat.testBit_eq_decide_div_mod_eq, Loopy.toNat_cy]
  have hcx : (Loopy.cx v).getLsbD 1 = decide (v.toNat % 32 / 2 % 2 = 1) := by
    rw [BitVec.getLsbD, Nat.testBit_eq_decide_div_mod_eq, Loopy.toNat_cx]
  rw [BitVec.extractLsb'_toNat, Nat.shiftRight_zero, BitVec.toNat_ushiftRight, Nat.shiftRight_eq_div_pow,
    attributeShift, hcy, hcx, Nat.pow_add, ← Nat.div_div_eq_div_mul]
  simp only [decide_eq_true_eq]
  congr 2
  · congr 1
    split <;> rfl
  · split <;> rfl

end

section

variable (p : Ppu)

/-- A bit as an address part. -/
theorem toNat_ofBool_shift (b : Bool) : ((BitVec.ofBool b).setWidth 14 <<< 12 : BitVec 14).toNat = b.toNat * 4096 := by
  cases b <;> rfl

theorem toNat_tile_shift (tile : Byte) : (tile.setWidth 14 <<< 4 : BitVec 14).toNat = tile.toNat * 16 := by
  have := tile.isLt
  rw [BitVec.toNat_shiftLeft, BitVec.toNat_setWidth, Nat.shiftLeft_eq]
  omega

theorem toNat_patternAddr :
    (patternAddr p).toNat = p.ctrl.toNat / 16 % 2 * 4096 + p.nxId.toNat * 16 + p.v.toNat / 4096 := by
  have hhalf : p.bgHalf.toNat = p.ctrl.toNat / 16 % 2 := toNat_getLsbD p.ctrl 4
  have := p.nxId.isLt
  have := p.v.isLt
  rw [patternAddr, BitVec.toNat_add, BitVec.toNat_add, toNat_ofBool_shift, toNat_tile_shift, hhalf,
    BitVec.toNat_setWidth, Loopy.toNat_fy]
  omega

theorem spr16_eq : p.spr16 = decide (p.ctrl.toNat / 32 % 2 = 1) := getLsbD_eq_div p.ctrl 5

theorem spriteHeight_eq : spriteHeight p = height p := by
  unfold spriteHeight height
  rw [spr16_eq]
  simp only [decide_eq_true_eq]

/-- The top tile of a 16-pixel sprite (`63` R601). -/
theorem toNat_topTile (tile : Byte) : (tile &&& 0xFE#8).toNat = tile.toNat / 2 * 2 := toNat_and_highMask tile 1

/-- The tile of the pair that holds row `r` of a 16-pixel sprite, as an address part (`63` R601). -/
theorem toNat_pairTile_shift (tile : Byte) {r : Nat} (hr : r < 16) :
    (((tile &&& 0xFE#8).setWidth 14 + (if 8 ≤ r then 1#14 else 0#14)) <<< 4 : BitVec 14).toNat =
      (tile.toNat / 2 * 2 + r / 8) * 16 := by
  have := tile.isLt
  have hbottom : (if 8 ≤ r then 1#14 else 0#14).toNat = r / 8 := by
    split
    · show 1 = r / 8
      omega
    · show 0 = r / 8
      omega
  rw [BitVec.toNat_shiftLeft, BitVec.toNat_add, BitVec.toNat_setWidth, toNat_topTile, hbottom, Nat.shiftLeft_eq]
  omega

/-- The half, the tile and the row of a sprite's address (`63` R601). -/
theorem toNat_half_tile_row (half : Bool) {x : BitVec 14} {k r : Nat} (hx : x.toNat = k * 16) (hk : k < 256)
    (hr : r < 16) :
    ((BitVec.ofBool half).setWidth 14 <<< 12 ||| x ||| BitVec.ofNat 14 r).toNat = half.toNat * 4096 + k * 16 + r := by
  have hhalf := toNat_ofBool_shift half
  have hrow : (BitVec.ofNat 14 r).toNat = r := by
    rw [BitVec.toNat_ofNat]
    omega
  have hupper := toNat_or_eq_add (y := x) 12 (by rw [hhalf]; omega) (by omega)
  rw [hhalf, hx] at hupper
  rw [toNat_or_eq_add 4 (by rw [hupper]; omega) (by omega), hupper, hrow]

/-- The row of a sprite's pattern that shows, vertical flip applied (`63` R601). -/
def shownRow (p : Ppu) (attr : Byte) (row : Nat) : Nat := if 128 ≤ attr.toNat then height p - 1 - row else row

/-- The address of a sprite row (`63` R595, R601). -/
theorem toNat_spritePatternAddr (tile attr : Byte) {row : Nat} (hrow : row < height p) :
    (spritePatternAddr p tile attr row).toNat =
      if height p = 8 then p.ctrl.toNat / 8 % 2 * 4096 + tile.toNat * 16 + shownRow p attr row
      else tile.toNat % 2 * 4096 + (tile.toNat / 2 * 2 + shownRow p attr row / 8) * 16 + shownRow p attr row % 8 := by
  have hr : shownRow p attr row < height p := by unfold shownRow; split <;> omega
  have hshown : (if attr.getLsbD 7 then spriteHeight p - 1 - row else row) = shownRow p attr row := by
    rw [getLsbD_seven, spriteHeight_eq, shownRow]
    simp only [decide_eq_true_eq]
  unfold spritePatternAddr
  rw [hshown]
  dsimp only
  generalize shownRow p attr row = r at hr ⊢
  have htile := tile.isLt
  by_cases h16 : p.ctrl.toNat / 32 % 2 = 1
  · have hheight : height p = 16 := if_pos h16
    have hhalf : (tile.getLsbD 0).toNat = tile.toNat % 2 := by rw [toNat_getLsbD, Nat.pow_zero, Nat.div_one]
    have htall : p.spr16 = true := (spr16_eq p).trans (decide_eq_true h16)
    rw [if_pos htall, if_neg (show ¬ height p = 8 by omega),
      toNat_half_tile_row _ (toNat_pairTile_shift tile (hheight ▸ hr)) (by omega) (by omega), hhalf]
  · have hheight : height p = 8 := if_neg h16
    have hhalf : p.sprHalf.toNat = p.ctrl.toNat / 8 % 2 := toNat_getLsbD p.ctrl 3
    have hshort : ¬ p.spr16 = true := by rw [spr16_eq, decide_eq_true_eq]; exact h16
    rw [if_neg hshort, if_pos hheight, toNat_half_tile_row _ (toNat_tile_shift tile) htile (by omega), hhalf]

end

/-- Settles O48: the addresses as numbers, and the quadrant's bits. -/
theorem fetchAddresses : Obligations.FetchAddresses := by
  intro c p tile attr row cx cy nt half at14 h r
  have hpattern : patternAddr p = BitVec.ofNat 14 (half * 4096 + p.nxId.toNat * 16 + p.v.toNat / 4096) := by
    rw [← toNat_patternAddr, BitVec.ofNat_toNat, BitVec.setWidth_eq]
  have hhigh : patternAddr p + 8#14 =
      BitVec.ofNat 14 (half * 4096 + p.nxId.toNat * 16 + p.v.toNat / 4096 + 8) := by
    rw [hpattern, ← BitVec.ofNat_add]
  refine ⟨?_, ?_, ?_, ?_, toNat_spritePatternAddr p tile attr⟩
  · rw [fetchNametable, nametableAddr_eq]
  · rw [fetchAttribute, toNat_attributeBits, attributeAddr_eq]
  · rw [fetchPatternLow, hpattern]
  · rw [fetchPatternHigh, hhigh]

end Sys2Proof.Machine

/-! ## The scroll updates

Each update of the address register replaces fields of it, which is arithmetic on its digits (`63` R576 to R581). -/

namespace Sys2Proof.Machine

open Rule

/-- The scroll position with given fine-Y, nametable, coarse-Y and coarse-X, as a number (`10` R38). -/
def scrollPosition (fy nt cy cx : Nat) : BitVec 15 := BitVec.ofNat 15 (fy * 4096 + nt * 1024 + cy * 32 + cx)

section

variable (v t : BitVec 15)

theorem toNat_not_eq (b : Bool) : (!b).toNat = 1 - b.toNat := by cases b <;> rfl

theorem cx_eq_31_iff : Loopy.cx v = 31#5 ↔ v.toNat % 32 = 31 := by
  rw [← BitVec.toNat_inj, Loopy.toNat_cx]
  rfl

theorem cy_eq_iff {n : Nat} (hn : n < 32) : Loopy.cy v = BitVec.ofNat 5 n ↔ v.toNat / 32 % 32 = n := by
  rw [← BitVec.toNat_inj, Loopy.toNat_cy, BitVec.toNat_ofNat, Nat.mod_eq_of_lt hn]

theorem fy_lt_7_iff : Loopy.fy v < 7#3 ↔ v.toNat / 4096 < 7 := by
  rw [BitVec.lt_def, Loopy.toNat_fy]
  rfl

/-- IncX as arithmetic (`63` R576). -/
theorem stepX_eq :
    stepX v =
      if v.toNat % 32 = 31 then
        scrollPosition (v.toNat / 4096) (v.toNat / 1024 % 4 / 2 * 2 + (1 - v.toNat / 1024 % 4 % 2))
          (v.toNat / 32 % 32) 0
      else scrollPosition (v.toNat / 4096) (v.toNat / 1024 % 4) (v.toNat / 32 % 32) (v.toNat % 32 + 1) := by
  unfold stepX scrollPosition
  by_cases h : v.toNat % 32 = 31
  · have hzero : (0#5).toNat = 0 := rfl
    rw [if_pos h, if_pos ((cx_eq_31_iff v).mpr h)]
    simp only [Loopy.setNx, Loopy.setCx, Loopy.cx_pack, Loopy.cy_pack, Loopy.ny_pack, Loopy.fy_pack]
    simp only [Loopy.pack_eq, Loopy.toNat_fy, Loopy.toNat_ny, Loopy.toNat_nx, Loopy.toNat_cy, toNat_not_eq, hzero]
    exact congrArg (BitVec.ofNat 15) (by omega)
  · have hnext : (Loopy.cx v + 1#5).toNat = v.toNat % 32 + 1 := by
      rw [BitVec.toNat_add, Loopy.toNat_cx, BitVec.toNat_ofNat]
      omega
    rw [if_neg h, if_neg (mt (cx_eq_31_iff v).mp h)]
    simp only [Loopy.setCx, Loopy.pack_eq, Loopy.toNat_fy, Loopy.toNat_ny, Loopy.toNat_nx, Loopy.toNat_cy, hnext]
    exact congrArg (BitVec.ofNat 15) (by omega)

/-- IncY as arithmetic (`63` R579). -/
theorem stepY_eq :
    stepY v =
      if v.toNat / 4096 < 7 then
        scrollPosition (v.toNat / 4096 + 1) (v.toNat / 1024 % 4) (v.toNat / 32 % 32) (v.toNat % 32)
      else if v.toNat / 32 % 32 = 29 then scrollPosition 0 ((v.toNat / 1024 % 4 + 2) % 4) 0 (v.toNat % 32)
      else if v.toNat / 32 % 32 = 31 then scrollPosition 0 (v.toNat / 1024 % 4) 0 (v.toNat % 32)
      else scrollPosition 0 (v.toNat / 1024 % 4) (v.toNat / 32 % 32 + 1) (v.toNat % 32) := by
  have hzero3 : (0#3).toNat = 0 := rfl
  have hzero5 : (0#5).toNat = 0 := rfl
  unfold stepY scrollPosition
  by_cases hfy : v.toNat / 4096 < 7
  · have hnext : (Loopy.fy v + 1#3).toNat = v.toNat / 4096 + 1 := by
      rw [BitVec.toNat_add, Loopy.toNat_fy, BitVec.toNat_ofNat]
      omega
    rw [if_pos hfy, if_pos ((fy_lt_7_iff v).mpr hfy)]
    simp only [Loopy.setFy, Loopy.pack_eq, Loopy.toNat_ny, Loopy.toNat_nx, Loopy.toNat_cy, Loopy.toNat_cx, hnext]
    exact congrArg (BitVec.ofNat 15) (by omega)
  rw [if_neg hfy, if_neg (mt (fy_lt_7_iff v).mp hfy)]
  simp only [Loopy.setNy, Loopy.setCy, Loopy.setFy, Loopy.cx_pack, Loopy.cy_pack, Loopy.nx_pack, Loopy.ny_pack,
    Loopy.fy_pack]
  by_cases h29 : v.toNat / 32 % 32 = 29
  · rw [if_pos h29, if_pos ((cy_eq_iff v (by decide)).mpr h29)]
    simp only [Loopy.pack_eq, Loopy.toNat_ny, Loopy.toNat_nx, Loopy.toNat_cx, toNat_not_eq, hzero3, hzero5]
    exact congrArg (BitVec.ofNat 15) (by omega)
  rw [if_neg h29, if_neg (mt (cy_eq_iff v (by decide)).mp h29)]
  by_cases h31 : v.toNat / 32 % 32 = 31
  · rw [if_pos h31, if_pos ((cy_eq_iff v (by decide)).mpr h31)]
    simp only [Loopy.pack_eq, Loopy.toNat_ny, Loopy.toNat_nx, Loopy.toNat_cx, hzero3, hzero5]
    exact congrArg (BitVec.ofNat 15) (by omega)
  · have hnext : (Loopy.cy v + 1#5).toNat = v.toNat / 32 % 32 + 1 := by
      rw [BitVec.toNat_add, Loopy.toNat_cy, BitVec.toNat_ofNat]
      omega
    rw [if_neg h31, if_neg (mt (cy_eq_iff v (by decide)).mp h31)]
    simp only [Loopy.pack_eq, Loopy.toNat_ny, Loopy.toNat_nx, Loopy.toNat_cx, hnext, hzero3]
    exact congrArg (BitVec.ofNat 15) (by omega)

/-- The horizontal part of a position: coarse-X and the horizontal nametable bit (`63` R580). -/
def horizontalPart (u : BitVec 15) : Nat := u.toNat % 32 + u.toNat / 1024 % 2 * 1024

/-- CopyX as arithmetic (`63` R580). -/
theorem setNx_setCx_eq :
    Loopy.setNx (Loopy.setCx v (Loopy.cx t)) (Loopy.nx t) =
      BitVec.ofNat 15 (v.toNat - horizontalPart v + horizontalPart t) := by
  simp only [Loopy.setNx, Loopy.setCx, Loopy.cx_pack, Loopy.cy_pack, Loopy.ny_pack, Loopy.fy_pack]
  simp only [Loopy.pack_eq, Loopy.toNat_fy, Loopy.toNat_ny, Loopy.toNat_nx, Loopy.toNat_cy, Loopy.toNat_cx]
  exact congrArg (BitVec.ofNat 15) (by unfold horizontalPart; omega)

/-- CopyY as arithmetic (`63` R581). -/
theorem setCy_setNy_setFy_eq :
    Loopy.setCy (Loopy.setNy (Loopy.setFy v (Loopy.fy t)) (Loopy.ny t)) (Loopy.cy t) =
      BitVec.ofNat 15 (t.toNat - horizontalPart t + horizontalPart v) := by
  simp only [Loopy.setCy, Loopy.setNy, Loopy.setFy, Loopy.cx_pack, Loopy.nx_pack, Loopy.ny_pack, Loopy.fy_pack]
  simp only [Loopy.pack_eq, Loopy.toNat_fy, Loopy.toNat_ny, Loopy.toNat_nx, Loopy.toNat_cy, Loopy.toNat_cx]
  exact congrArg (BitVec.ofNat 15) (by unfold horizontalPart; omega)

end

/-- Rendering is on where one of the two enable bits is (`63` R562). -/
theorem renderingOn_eq (p : Ppu) : p.renderingOn = decide (p.mask.toNat / 8 % 4 ≠ 0) := by
  rw [Ppu.renderingOn, Ppu.bgEn, Ppu.sprEn, getLsbD_eq_div, getLsbD_eq_div, ← Bool.decide_or, decide_eq_decide]
  omega

/-! ## The clock by position

A clock is the steps of its position on a rendering scanline, then the vertical blank, the pixel and the advance,
which leave the address register, the background registers and the sprite list alone (`63` R561). -/

section

variable (c : Cartridge) (p : Ppu)

/-- The registers after the steps of the pre-render and visible scanlines (`63` R561). -/
def rendered (c : Cartridge) (p : Ppu) : Ppu :=
  onlyIf (decide (-1 ≤ p.scanline ∧ p.scanline ≤ 239)) (renderSteps c p.scanline p.cycle) p

/-- The steps of every position. -/
theorem rendered_eq :
    rendered c p =
      if -1 ≤ p.scanline ∧ p.scanline ≤ 239 then
        if p.cycle = 256 then incY (bgStep c p.cycle p)
        else if p.cycle = 257 then
          onlyIf (decide (0 ≤ p.scanline)) (spriteEval p.scanline) (copyX (loadShifters (bgStep c p.cycle p)))
        else if 2 ≤ p.cycle ∧ p.cycle ≤ 257 ∨ 321 ≤ p.cycle ∧ p.cycle ≤ 337 then bgStep c p.cycle p
        else if p.scanline = -1 ∧ 280 ≤ p.cycle ∧ p.cycle ≤ 304 then copyY p
        else if p.scanline = -1 ∧ p.cycle = 1 then clearFlags p
        else p
      else p := by
  unfold rendered
  by_cases hs : -1 ≤ p.scanline ∧ p.scanline ≤ 239
  swap
  · rw [decide_eq_false hs, if_neg hs, onlyIf_false]
  rw [decide_eq_true hs, if_pos hs, onlyIf_true]
  unfold renderSteps
  dsimp only
  by_cases h256 : p.cycle = 256
  · simp [h256]
  by_cases h257 : p.cycle = 257
  · simp [h257]
  by_cases hbg : 2 ≤ p.cycle ∧ p.cycle ≤ 257 ∨ 321 ≤ p.cycle ∧ p.cycle ≤ 337
  · have hclear : ¬ (p.scanline = -1 ∧ p.cycle = 1) := by omega
    have hcopy : ¬ (p.scanline = -1 ∧ 280 ≤ p.cycle ∧ p.cycle ≤ 304) := by omega
    rw [if_neg h256, if_neg h257, if_pos hbg, decide_eq_false hclear, decide_eq_false hcopy, decide_eq_true hbg]
    simp [h256, h257]
  rw [if_neg h256, if_neg h257, if_neg hbg, decide_eq_false hbg]
  by_cases hcopy : p.scanline = -1 ∧ 280 ≤ p.cycle ∧ p.cycle ≤ 304
  · have hclear : ¬ (p.scanline = -1 ∧ p.cycle = 1) := by omega
    rw [if_pos hcopy, decide_eq_true hcopy, decide_eq_false hclear]
    simp [h256, h257]
  · rw [if_neg hcopy, decide_eq_false hcopy]
    by_cases hclear : p.scanline = -1 ∧ p.cycle = 1
    · rw [if_pos hclear, decide_eq_true hclear]
      simp [h256, h257]
    · rw [if_neg hclear, decide_eq_false hclear]
      simp [h256, h257]

/-- The rest of the clock changes two flags, the NMI request, the frame buffer and the position (`63` R561). -/
theorem ppuClock_eq :
    ∃ hit vblank nmi frame, ppuClock c p =
      advance { rendered c p with spr0hit := hit, vblank := vblank, nmiRequest := nmi, frame := frame } := by
  have hclock : ∀ draws starts, ∃ hit vblank nmi frame,
      onlyIf draws (drawPixel c p.scanline p.cycle) (onlyIf starts vblankStart (rendered c p)) =
        { rendered c p with spr0hit := hit, vblank := vblank, nmiRequest := nmi, frame := frame } := by
    intro draws starts
    cases draws <;> cases starts <;> exact ⟨_, _, _, _, rfl⟩
  obtain ⟨_, _, _, _, h⟩ := hclock (decide (0 ≤ p.scanline ∧ p.scanline ≤ 239 ∧ 1 ≤ p.cycle ∧ p.cycle ≤ 256))
    (decide (p.scanline = 241 ∧ p.cycle = 1))
  exact ⟨_, _, _, _, congrArg advance h⟩

/-- Sprite evaluation and the clearing of the flags, each at its positions (`63` R561, R567, R596). -/
def spriteStep (p : Ppu) : Ppu :=
  if 0 ≤ p.scanline ∧ p.scanline ≤ 239 ∧ p.cycle = 257 then spriteEval p.scanline p
  else if p.scanline = -1 ∧ p.cycle = 1 then clearFlags p
  else p

/-- Every other step of a rendering scanline touches the address register and the background registers alone. -/
theorem rendered_shape : ∃ v a b d e f g h i, rendered c p =
    { spriteStep p with v := v, shPatLo := a, shPatHi := b, shAttLo := d, shAttHi := e, nxId := f, nxAtt := g,
                        nxLo := h, nxHi := i } := by
  rw [rendered_eq]
  unfold spriteStep
  obtain ⟨_, _, _, _, _, _, _, _, _, hbg⟩ := bgStep_eq c p p.cycle
  by_cases hs : -1 ≤ p.scanline ∧ p.scanline ≤ 239
  swap
  · rw [if_neg hs, if_neg (by omega), if_neg (by omega)]
    exact ⟨_, _, _, _, _, _, _, _, _, rfl⟩
  rw [if_pos hs]
  split
  · rw [if_neg (by omega), if_neg (by omega), hbg]
    obtain ⟨_, hv⟩ := incY_eq (bgStep c p.cycle p)
    rw [hbg] at hv
    exact ⟨_, _, _, _, _, _, _, _, _, hv⟩
  split
  · obtain ⟨_, hv⟩ := copyX_eq (loadShifters (bgStep c p.cycle p))
    rw [hv, hbg]
    by_cases hvisible : 0 ≤ p.scanline
    · rw [if_pos (by omega), decide_eq_true hvisible, onlyIf_true]
      exact ⟨_, _, _, _, _, _, _, _, _, rfl⟩
    · rw [if_neg (by omega), if_neg (by omega), decide_eq_false hvisible, onlyIf_false]
      exact ⟨_, _, _, _, _, _, _, _, _, rfl⟩
  rw [if_neg (show ¬ (0 ≤ p.scanline ∧ p.scanline ≤ 239 ∧ p.cycle = 257) by omega)]
  split
  · rw [if_neg (by omega)]
    exact ⟨_, _, _, _, _, _, _, _, _, hbg⟩
  split
  · rw [if_neg (by omega)]
    obtain ⟨_, hv⟩ := copyY_eq p
    exact ⟨_, _, _, _, _, _, _, _, _, hv⟩
  · split <;> exact ⟨_, _, _, _, _, _, _, _, _, rfl⟩

/-- The same background registers: the shifters and the latches (`63` R570 to R575). -/
structure SameBackground (p q : Ppu) : Prop where
  shPatLo : q.shPatLo = p.shPatLo
  shPatHi : q.shPatHi = p.shPatHi
  shAttLo : q.shAttLo = p.shAttLo
  shAttHi : q.shAttHi = p.shAttHi
  nxId    : q.nxId = p.nxId
  nxAtt   : q.nxAtt = p.nxAtt
  nxLo    : q.nxLo = p.nxLo
  nxHi    : q.nxHi = p.nxHi

/-- What the whole clock keeps of the rendering steps (`63` R561). -/
structure SameRendered (p q : Ppu) : Prop extends SameBackground p q where
  v       : q.v = p.v
  sprList : q.sprList = p.sprList
  sprovf  : q.sprovf = p.sprovf

theorem sameRendered_ppuClock : SameRendered (rendered c p) (ppuClock c p) := by
  obtain ⟨_, _, _, _, h⟩ := ppuClock_eq c p
  rw [h]
  obtain ⟨_, _, h'⟩ := advance_eq _
  rw [h']
  exact ⟨⟨rfl, rfl, rfl, rfl, rfl, rfl, rfl, rfl⟩, rfl, rfl, rfl⟩

/-! ### The position -/

theorem rendered_position : (rendered c p).cycle = p.cycle ∧ (rendered c p).scanline = p.scanline := by
  have hsprite : (spriteStep p).cycle = p.cycle ∧ (spriteStep p).scanline = p.scanline := by
    unfold spriteStep
    split
    · exact ⟨rfl, rfl⟩
    split <;> exact ⟨rfl, rfl⟩
  obtain ⟨_, _, _, _, _, _, _, _, _, h⟩ := rendered_shape c p
  rw [h]
  exact hsprite

theorem advance_cycle : (advance p).cycle = if p.cycle + 1 = 341 then 0 else p.cycle + 1 := by
  unfold advance Config.ppuCycles
  split <;> rfl

theorem advance_scanline :
    (advance p).scanline =
      if p.cycle + 1 = 341 then if p.scanline + 1 = 261 then -1 else p.scanline + 1 else p.scanline := by
  unfold advance Config.ppuCycles
  split <;> rfl

theorem ppuClock_cycle : (ppuClock c p).cycle = if p.cycle + 1 = 341 then 0 else p.cycle + 1 := by
  obtain ⟨_, _, _, _, h⟩ := ppuClock_eq c p
  rw [h, advance_cycle]
  dsimp only
  rw [(rendered_position c p).1]

theorem ppuClock_scanline :
    (ppuClock c p).scanline =
      if p.cycle + 1 = 341 then if p.scanline + 1 = 261 then -1 else p.scanline + 1 else p.scanline := by
  obtain ⟨_, _, _, _, h⟩ := ppuClock_eq c p
  rw [h, advance_scanline]
  dsimp only
  rw [(rendered_position c p).1, (rendered_position c p).2]

/-- A clock on the grid moves the position by one, round the frame (`63` R620). -/
theorem position_ppuClock (hk : p.cycle < 341) (hlo : -1 ≤ p.scanline) (hhi : p.scanline ≤ 260) :
    position (ppuClock c p) = (position p + 1) % 89342
      ∧ (ppuClock c p).cycle < 341 ∧ -1 ≤ (ppuClock c p).scanline ∧ (ppuClock c p).scanline ≤ 260 := by
  unfold position
  rw [ppuClock_cycle, ppuClock_scanline]
  split
  · split <;> refine ⟨?_, ?_, ?_, ?_⟩ <;> omega
  · refine ⟨?_, ?_, ?_, ?_⟩ <;> omega

end

/-- Settles O49: each clock moves the position by one, modulo the frame. -/
theorem frameHas89342Ticks : Obligations.FrameHas89342Ticks := by
  intro c n
  induction n with
  | zero =>
    intro p hk hlo hhi
    refine ⟨?_, hk, hlo, hhi⟩
    show position p = (position p + (0 : Nat)) % 89342
    unfold position
    omega
  | succ n ih =>
    intro p hk hlo hhi
    obtain ⟨hpos, hk', hlo', hhi'⟩ := position_ppuClock c p hk hlo hhi
    obtain ⟨hsum, hgrid⟩ := ih (ppuClock c p) hk' hlo' hhi'
    refine ⟨?_, hgrid⟩
    calc position (ppuClocks c n (ppuClock c p))
      _ = ((position p + 1) % 89342 + n) % 89342 := by rw [hsum, hpos]
      _ = (position p + (n + 1 : Nat)) % 89342 := by omega

end Sys2Proof.Machine

/-! ## The address register and the sprite list after a clock

Each reads off the steps of its position (`63` R561, R596). -/

namespace Sys2Proof.Machine

open Rule

/-! ### The address register -/

section

variable {c : Cartridge} {p q : Ppu}

theorem renderingOn_congr (hmask : q.mask = p.mask) : q.renderingOn = p.renderingOn := by
  rw [renderingOn_eq, renderingOn_eq, hmask]

/-! IncX, IncY and CopyX depend on the enable bits, the address register and, for the copy, `t` (`63` R562). -/

theorem incX_v_congr (hmask : q.mask = p.mask) (hv : q.v = p.v) : (incX q).v = (incX p).v := by
  unfold incX
  rw [renderingOn_congr hmask]
  split
  · rw [hv]
  · exact hv

theorem incY_v_congr (hmask : q.mask = p.mask) (hv : q.v = p.v) : (incY q).v = (incY p).v := by
  unfold incY
  rw [renderingOn_congr hmask]
  split
  · rw [hv]
  · exact hv

theorem copyX_v_congr (hmask : q.mask = p.mask) (ht : q.t = p.t) (hv : q.v = p.v) : (copyX q).v = (copyX p).v := by
  unfold copyX
  rw [renderingOn_congr hmask]
  split
  · rw [hv, ht]
  · exact hv

variable (c p)

theorem incX_mask : (incX p).mask = p.mask := by
  obtain ⟨_, h⟩ := incX_eq p
  rw [h]

/-- The background step moves the address register at its last phase (`63` R570). -/
theorem bgStep_v (k : Nat) : (bgStep c k p).v = if (k - 1) % 8 = 7 then (incX p).v else p.v := by
  have hincX : (incX (shiftBg p)).v = (incX p).v := incX_v_congr rfl rfl
  unfold bgStep bgPhase
  by_cases h7 : (k - 1) % 8 = 7
  · rw [if_neg (by omega), if_neg (by omega), if_neg (by omega), if_neg (by omega), if_pos h7, if_pos h7, hincX]
  · rw [if_neg h7, if_neg h7]
    split
    · rfl
    split
    · rfl
    split
    · rfl
    split <;> rfl

end

/-- The address register after a clock, position by position (`63` R561, R570). -/
theorem ppuClock_v (c : Cartridge) (p : Ppu) :
    (ppuClock c p).v =
      if -1 ≤ p.scanline ∧ p.scanline ≤ 239 then
        if p.cycle = 256 then (incY (incX p)).v
        else if p.cycle = 257 then (copyX p).v
        else if p.scanline = -1 ∧ 280 ≤ p.cycle ∧ p.cycle ≤ 304 then (copyY p).v
        else if (2 ≤ p.cycle ∧ p.cycle ≤ 257 ∨ 321 ≤ p.cycle ∧ p.cycle ≤ 337) ∧ p.cycle % 8 = 0 then
          (incX p).v
        else p.v
      else p.v := by
  have hsame := sameRegisters_bgStep c p p.cycle
  have hv := bgStep_v c p p.cycle
  rw [(sameRendered_ppuClock c p).v, rendered_eq]
  by_cases hs : -1 ≤ p.scanline ∧ p.scanline ≤ 239
  swap
  · rw [if_neg hs, if_neg hs]
  rw [if_pos hs, if_pos hs]
  by_cases h256 : p.cycle = 256
  · rw [if_pos (by omega)] at hv
    rw [if_pos h256, if_pos h256]
    exact incY_v_congr (hsame.mask.trans (incX_mask p).symm) hv
  rw [if_neg h256, if_neg h256]
  by_cases h257 : p.cycle = 257
  · have heval : ∀ b q, (onlyIf b (spriteEval p.scanline) q).v = q.v := fun b q => by cases b <;> rfl
    rw [if_neg (by omega)] at hv
    rw [if_pos h257, if_pos h257, heval]
    exact copyX_v_congr hsame.mask hsame.t hv
  rw [if_neg h257, if_neg h257]
  by_cases hbg : 2 ≤ p.cycle ∧ p.cycle ≤ 257 ∨ 321 ≤ p.cycle ∧ p.cycle ≤ 337
  · have hphase : (p.cycle - 1) % 8 = 7 ↔ p.cycle % 8 = 0 := by omega
    rw [if_pos hbg, if_neg (by omega), hv]
    simp only [hbg, hphase, true_and]
  rw [if_neg hbg, if_neg (c := (_ ∨ _) ∧ _) (fun h => hbg h.1)]
  split
  · rfl
  split <;> rfl

/-- With rendering off the scroll updates do nothing (`63` R562). -/
theorem scrollUpdates_off {p : Ppu} (h : p.mask.toNat / 8 % 4 = 0) :
    incX p = p ∧ incY p = p ∧ copyX p = p ∧ copyY p = p := by
  have hoff : p.renderingOn = false := by
    rw [renderingOn_eq, decide_eq_false_iff_not]
    exact not_not.mpr h
  exact ⟨incX_off p hoff, incY_off p hoff, copyX_off p hoff, copyY_off p hoff⟩

/-- Settles O47: each update is arithmetic on the digits of the position, and the clock's positions are `ppuClock_v`. -/
theorem scrollUpdates : Obligations.ScrollUpdates := by
  intro c p cx cy nt fy v hor
  refine ⟨?_, ppuClock_v c p⟩
  split
  · rename_i hoff
    exact scrollUpdates_off hoff
  · rename_i hon
    have hon' : p.renderingOn = true := by
      rw [renderingOn_eq]
      exact decide_eq_true hon
    refine ⟨?_, ?_, ?_, ?_⟩
    · rw [incX, if_pos hon', stepX_eq]
      split <;> rfl
    · rw [incY, if_pos hon', stepY_eq]
      split
      · rfl
      split
      · rfl
      split <;> rfl
    · rw [copyX, if_pos hon', setNx_setCx_eq]
      rfl
    · rw [copyY, if_pos hon', setCy_setNy_setFy_eq]
      rfl

/-- Settles O51: every update of the address register is a scroll update, which does nothing. -/
theorem renderingOffLeavesTheAddress : Obligations.RenderingOffLeavesTheAddress := by
  intro c p hoff
  obtain ⟨hincX, hincY, hcopyX, hcopyY⟩ := scrollUpdates_off hoff
  rw [ppuClock_v, hincX, hincY, hcopyX, hcopyY]
  simp only [ite_self]

/-! ### Sprite evaluation -/

section

variable (p : Ppu)

/-- An object is selected where the scanline lies in its rows (`63` R596). -/
theorem mem_spriteMatches (s : Nat) (i : Fin 64) :
    i ∈ spriteMatches p s ↔ (objectByte p i 0).toNat ≤ s ∧ s < (objectByte p i 0).toNat + height p := by
  unfold spriteMatches spriteInRange
  rw [List.mem_filter, spriteHeight_eq]
  simp only [List.mem_finRange, true_and, Bool.and_eq_true, decide_eq_true_eq]
  show _ ↔ (oamByte p i 0).toNat ≤ s ∧ s < (oamByte p i 0).toNat + height p
  omega

end

/-- An element of an ascending list that is not among its first `n`: there are more than `n`, and the first `n` lie
below it. -/
theorem of_mem_of_not_mem_take {l : List (Fin 64)} (hl : l.Pairwise (fun i j => i < j)) {n : Nat} {i : Fin 64}
    (hmem : i ∈ l) (hnot : i ∉ l.take n) : n < l.length ∧ ∀ j ∈ l.take n, j < i := by
  rw [← List.take_append_drop n l] at hl
  have hdrop : i ∈ l.drop n := by
    rw [← List.take_append_drop n l] at hmem
    exact (List.mem_append.mp hmem).resolve_left hnot
  refine ⟨?_, fun j hj => ?_⟩
  · have := List.length_pos_of_mem hdrop
    rw [List.length_drop] at this
    omega
  · exact (List.pairwise_append.mp hl).2.2 j hj i hdrop

/-- An ascending list of more than `n` elements has one that is not among its first `n`. -/
theorem exists_not_mem_take {l : List (Fin 64)} (hl : l.Pairwise (fun i j => i < j)) {n : Nat} (h : n < l.length) :
    ∃ i ∈ l, i ∉ l.take n := by
  have hdrop : l[n] ∈ l.drop n := by
    rw [List.drop_eq_getElem_cons h]
    exact List.mem_cons_self
  rw [← List.take_append_drop n l] at hl
  exact ⟨l[n], List.getElem_mem h, fun htake => lt_irrefl _ ((List.pairwise_append.mp hl).2.2 _ htake _ hdrop)⟩

/-- The sprite list and the overflow flag after a clock are those of its sprite step. -/
theorem ppuClock_sprites (c : Cartridge) (p : Ppu) :
    (ppuClock c p).sprList = (spriteStep p).sprList ∧ (ppuClock c p).sprovf = (spriteStep p).sprovf := by
  have hsame := sameRendered_ppuClock c p
  obtain ⟨_, _, _, _, _, _, _, _, _, h⟩ := rendered_shape c p
  rw [hsame.sprList, hsame.sprovf, h]
  exact ⟨rfl, rfl⟩

/-- Settles O52: the first eight of the matching objects, in order, and whether there are more. -/
theorem spriteEvaluation : Obligations.SpriteEvaluation := by
  intro p s y hit q
  have hmem : ∀ i, i ∈ spriteMatches p s ↔ hit i := mem_spriteMatches p s
  have horder := spriteMatches_pairwise p s
  have hovf : q.sprovf = true ↔ p.sprovf = true ∨ 8 < (spriteMatches p s).length := by
    show (p.sprovf || decide (8 < (spriteMatches p s).length)) = true ↔ _
    rw [Bool.or_eq_true, decide_eq_true_eq]
  refine ⟨spriteEval_pairwise p s, spriteEval_length p s, fun i hi => (hmem i).mp (List.mem_of_mem_take hi),
    fun i hi hnot => ?_, fun h => ?_, fun h => hovf.mpr (.inl h), fun c => ?_⟩
  · obtain ⟨hlen, hbelow⟩ := of_mem_of_not_mem_take horder ((hmem i).mpr hi) hnot
    exact ⟨List.length_take_of_le hlen.le, hbelow, hovf.mpr (.inr hlen)⟩
  · refine (hovf.mp h).imp_right fun hlen => ?_
    obtain ⟨i, hi, hnot⟩ := exists_not_mem_take horder hlen
    exact ⟨i, (hmem i).mp hi, hnot⟩
  · intro e evaluates clears
    obtain ⟨hlist, hflag⟩ := ppuClock_sprites c p
    rw [hlist, hflag]
    unfold spriteStep
    by_cases hevaluates : evaluates
    · rw [if_pos hevaluates, if_pos hevaluates, if_pos hevaluates]
      exact ⟨rfl, rfl⟩
    rw [if_neg hevaluates, if_neg hevaluates, if_neg hevaluates]
    by_cases hclears : clears
    · rw [if_pos hclears, if_pos hclears, if_pos hclears]
      exact ⟨rfl, rfl⟩
    · rw [if_neg hclears, if_neg hclears, if_neg hclears]
      exact ⟨rfl, rfl⟩

end Sys2Proof.Machine

/-! ## The background registers after a clock

A clock with fetches shifts, loads at phase 0 and fetches the latch of its phase; any other leaves the shifters and the
latches alone (`63` R561, R570 to R575). -/

namespace Sys2Proof.Machine

open Rule

/-- The low byte of a shifter replaced (`63` R572). -/
theorem toNat_loadLow (r : BitVec 16) (b : Byte) : (loadLow r b).toNat = r.toNat / 256 * 256 + b.toNat := by
  have hhigh : (r &&& 0xFF00#16).toNat = r.toNat / 256 * 256 := toNat_and_highMask r 8
  have hlow : (b.setWidth 16 : BitVec 16).toNat = b.toNat := by
    rw [BitVec.toNat_setWidth]
    have := b.isLt
    omega
  have := b.isLt
  rw [loadLow, toNat_or_eq_add 8 (by rw [hhigh]; omega) (by omega), hhigh, hlow]

theorem loadLow_loadLow (r : BitVec 16) (b : Byte) : loadLow (loadLow r b) b = loadLow r b := by
  apply BitVec.eq_of_toNat_eq
  have := b.isLt
  rw [toNat_loadLow, toNat_loadLow]
  omega

theorem toNat_widenBit (b : Bool) : (widenBit b).toNat = 255 * b.toNat := by cases b <;> rfl

/-- A shifter after a fetch clock: moved left, and loaded at phase 0 (`63` R571, R572). -/
def shiftedAt (k : Nat) (r : BitVec 16) (b : Byte) : BitVec 16 :=
  if k % 8 = 1 then loadLow (r <<< 1) b else r <<< 1

/-- `q` has the background registers of `p` after a fetch clock at cycle `k`: the shifters moved, and the latch of the
phase fetched (`63` R570 to R575). -/
structure FetchClock (c : Cartridge) (k : Nat) (p q : Ppu) : Prop where
  shPatLo : q.shPatLo = shiftedAt k p.shPatLo p.nxLo
  shPatHi : q.shPatHi = shiftedAt k p.shPatHi p.nxHi
  shAttLo : q.shAttLo = shiftedAt k p.shAttLo (widenBit (p.nxAtt.getLsbD 0))
  shAttHi : q.shAttHi = shiftedAt k p.shAttHi (widenBit (p.nxAtt.getLsbD 1))
  nxId    : q.nxId = if k % 8 = 1 then (fetchNametable c p).nxId else p.nxId
  nxAtt   : q.nxAtt = if k % 8 = 3 then (fetchAttribute c p).nxAtt else p.nxAtt
  nxLo    : q.nxLo = if k % 8 = 5 then (fetchPatternLow c p).nxLo else p.nxLo
  nxHi    : q.nxHi = if k % 8 = 7 then (fetchPatternHigh c p).nxHi else p.nxHi

section

variable {c : Cartridge} {k : Nat} {p q r : Ppu}

theorem FetchClock.congr (h : FetchClock c k p q) (g : SameBackground q r) : FetchClock c k p r :=
  ⟨g.shPatLo.trans h.shPatLo, g.shPatHi.trans h.shPatHi, g.shAttLo.trans h.shAttLo, g.shAttHi.trans h.shAttHi,
   g.nxId.trans h.nxId, g.nxAtt.trans h.nxAtt, g.nxLo.trans h.nxLo, g.nxHi.trans h.nxHi⟩

theorem SameBackground.trans (h : SameBackground p q) (g : SameBackground q r) : SameBackground p r :=
  ⟨g.shPatLo.trans h.shPatLo, g.shPatHi.trans h.shPatHi, g.shAttLo.trans h.shAttLo, g.shAttHi.trans h.shAttHi,
   g.nxId.trans h.nxId, g.nxAtt.trans h.nxAtt, g.nxLo.trans h.nxLo, g.nxHi.trans h.nxHi⟩

theorem sameBackground_v (p : Ppu) (u : BitVec 15) : SameBackground p { p with v := u } :=
  ⟨rfl, rfl, rfl, rfl, rfl, rfl, rfl, rfl⟩

theorem sameBackground_incY (p : Ppu) : SameBackground p (incY p) := by
  obtain ⟨u, h⟩ := incY_eq p; rw [h]; exact sameBackground_v p u

theorem sameBackground_copyX (p : Ppu) : SameBackground p (copyX p) := by
  obtain ⟨u, h⟩ := copyX_eq p; rw [h]; exact sameBackground_v p u

theorem sameBackground_copyY (p : Ppu) : SameBackground p (copyY p) := by
  obtain ⟨u, h⟩ := copyY_eq p; rw [h]; exact sameBackground_v p u

theorem sameBackground_spriteEval (b : Bool) (s : Int) (p : Ppu) : SameBackground p (onlyIf b (spriteEval s) p) := by
  cases b <;> exact ⟨rfl, rfl, rfl, rfl, rfl, rfl, rfl, rfl⟩

variable (c p)

/-- The background step is a fetch clock, phase by phase (`63` R570). -/
theorem fetchClock_bgStep (hk : 1 ≤ k) : FetchClock c k p (bgStep c k p) := by
  unfold bgStep bgPhase
  by_cases h1 : k % 8 = 1
  · rw [if_pos (by omega)]
    constructor <;> simp [shiftedAt, h1] <;> rfl
  rw [if_neg (by omega)]
  by_cases h3 : k % 8 = 3
  · rw [if_pos (by omega)]
    constructor <;> simp [shiftedAt, h3] <;> rfl
  rw [if_neg (by omega)]
  by_cases h5 : k % 8 = 5
  · rw [if_pos (by omega)]
    constructor <;> simp [shiftedAt, h5] <;> rfl
  rw [if_neg (by omega)]
  by_cases h7 : k % 8 = 7
  · rw [if_pos (by omega)]
    constructor <;> simp [shiftedAt, h7] <;> rfl
  rw [if_neg (by omega)]
  have hshift : FetchClock c k p (shiftBg p) := by
    constructor <;> simp [shiftedAt, h1, h3, h5, h7] <;> rfl
  split
  · obtain ⟨u, h⟩ := incX_eq (shiftBg p)
    rw [h]
    exact hshift.congr (sameBackground_v _ u)
  · exact hshift

variable {c p}

/-- Loading the shifters once more at phase 0 changes nothing (`63` R572). -/
theorem FetchClock.loadShifters (h : FetchClock c k p q) (hk : k % 8 = 1) : FetchClock c k p (loadShifters q) := by
  have hload : ∀ r b, shiftedAt k r b = loadLow (r <<< 1) b := fun r b => if_pos hk
  have hnxAtt : q.nxAtt = p.nxAtt := h.nxAtt.trans (if_neg (by omega))
  have hnxLo : q.nxLo = p.nxLo := h.nxLo.trans (if_neg (by omega))
  have hnxHi : q.nxHi = p.nxHi := h.nxHi.trans (if_neg (by omega))
  refine { h with shPatLo := ?_, shPatHi := ?_, shAttLo := ?_, shAttHi := ?_ }
  · show loadLow q.shPatLo q.nxLo = _
    rw [h.shPatLo, hnxLo, hload, loadLow_loadLow]
  · show loadLow q.shPatHi q.nxHi = _
    rw [h.shPatHi, hnxHi, hload, loadLow_loadLow]
  · show loadLow q.shAttLo (widenBit (q.nxAtt.getLsbD 0)) = _
    rw [h.shAttLo, hnxAtt, hload, loadLow_loadLow]
  · show loadLow q.shAttHi (widenBit (q.nxAtt.getLsbD 1)) = _
    rw [h.shAttHi, hnxAtt, hload, loadLow_loadLow]

variable (c p)

/-- Where the background fetches run, a clock is a fetch clock (`63` R561). -/
theorem fetchClock_ppuClock (h : fetching p) : FetchClock c p.cycle p (ppuClock c p) := by
  obtain ⟨hlo, hhi, hrange⟩ := h
  have hbg : FetchClock c p.cycle p (bgStep c p.cycle p) := fetchClock_bgStep c p (by omega)
  refine FetchClock.congr ?_ (sameRendered_ppuClock c p).toSameBackground
  rw [rendered_eq, if_pos ⟨hlo, hhi⟩]
  split
  · exact hbg.congr (sameBackground_incY _)
  split
  · exact (hbg.loadShifters (by omega)).congr
      ((sameBackground_copyX _).trans (sameBackground_spriteEval _ _ _))
  · exact hbg

/-- Any other clock leaves the background registers alone (`63` R561). -/
theorem sameBackground_ppuClock (h : ¬ fetching p) : SameBackground p (ppuClock c p) := by
  refine SameBackground.trans ?_ (sameRendered_ppuClock c p).toSameBackground
  rw [rendered_eq]
  have hrefl : SameBackground p p := sameBackground_v p p.v
  unfold fetching at h
  split
  · rw [if_neg (by omega), if_neg (by omega), if_neg (by omega)]
    split
    · exact sameBackground_copyY p
    split
    · exact { hrefl with }
    · exact hrefl
  · exact hrefl

end

/-- A shifter after a fetch clock, as a number. -/
theorem shiftedAt_eq (k : Nat) (r : BitVec 16) (b : Byte) :
    shiftedAt k r b =
      if k % 8 = 1 then BitVec.ofNat 16 (2 * r.toNat / 256 * 256 + b.toNat) else BitVec.ofNat 16 (2 * r.toNat) := by
  have hshift : (r <<< 1).toNat = 2 * r.toNat % 65536 := by
    rw [BitVec.toNat_shiftLeft, Nat.shiftLeft_eq]
    omega
  unfold shiftedAt
  split
  · apply BitVec.eq_of_toNat_eq
    have := b.isLt
    rw [toNat_loadLow, hshift, BitVec.toNat_ofNat]
    omega
  · apply BitVec.eq_of_toNat_eq
    rw [hshift, BitVec.toNat_ofNat]

/-- The pixel tap: a bit of each shifter where the background is enabled (`63` R605). -/
theorem toNat_bgPixel (p : Ppu) :
    (bgPixel p).p.toNat =
        (if p.mask.toNat / 8 % 2 = 1 then
          p.shPatHi.toNat / 2 ^ (15 - p.fineX.toNat) % 2 * 2 + p.shPatLo.toNat / 2 ^ (15 - p.fineX.toNat) % 2
        else 0)
      ∧ (bgPixel p).pal.toNat =
        (if p.mask.toNat / 8 % 2 = 1 then
          p.shAttHi.toNat / 2 ^ (15 - p.fineX.toNat) % 2 * 2 + p.shAttLo.toNat / 2 ^ (15 - p.fineX.toNat) % 2
        else 0) := by
  have hpair : ∀ a b : Bool, (BitVec.ofBool a ++ BitVec.ofBool b : BitVec 2).toNat = a.toNat * 2 + b.toNat := by
    decide
  have hpal : ∀ x : BitVec 2, (x.setWidth 3).toNat = x.toNat := by decide
  have hbgEn : p.bgEn = decide (p.mask.toNat / 8 % 2 = 1) := getLsbD_eq_div p.mask 3
  unfold bgPixel
  simp only [hbgEn, decide_eq_true_eq]
  split
  · dsimp only
    rw [hpal, hpair, hpair]
    simp only [toNat_getLsbD]
    exact ⟨trivial, trivial⟩
  · exact ⟨rfl, rfl⟩

/-- Settles O60: a clock with fetches is a fetch clock, any other leaves the background registers, and the tap reads
their bits. -/
theorem backgroundShiftersAndLatches : Obligations.BackgroundShiftersAndLatches := by
  intro c p q shifted bit
  have hattLo : (widenBit (p.nxAtt.getLsbD 0)).toNat = 255 * (p.nxAtt.toNat % 2) := by
    rw [toNat_widenBit, toNat_getLsbD, Nat.pow_zero, Nat.div_one]
  have hattHi : (widenBit (p.nxAtt.getLsbD 1)).toNat = 255 * (p.nxAtt.toNat / 2) := by
    have := p.nxAtt.isLt
    rw [toNat_widenBit, toNat_getLsbD]
    omega
  obtain ⟨htap, hpal⟩ := toNat_bgPixel p
  refine ⟨fun h => ?_, fun h => ?_, htap, hpal⟩
  · have hfetch := fetchClock_ppuClock c p h
    refine ⟨hfetch.shPatLo.trans (shiftedAt_eq ..), hfetch.shPatHi.trans (shiftedAt_eq ..), ?_, ?_, hfetch.nxId,
      hfetch.nxAtt, hfetch.nxLo, hfetch.nxHi⟩
    · exact hfetch.shAttLo.trans ((shiftedAt_eq ..).trans (by rw [hattLo]))
    · exact hfetch.shAttHi.trans ((shiftedAt_eq ..).trans (by rw [hattHi]))
  · have hsame := sameBackground_ppuClock c p h
    exact ⟨hsame.shPatLo, hsame.shPatHi, hsame.shAttLo, hsame.shAttHi, hsame.nxId, hsame.nxAtt, hsame.nxLo,
      hsame.nxHi⟩

end Sys2Proof.Machine

/-! ## Pixel resolution

The multiplexer's result as an address, the first object of the list that shows bits, and the sprite-zero flag of a
clock (`63` R600, R610, R611). -/

namespace Sys2Proof.Machine

open Rule

/-! ### The multiplexer -/

theorem toNat_pixelAddr (r : Pixel) : (pixelAddr r).toNat = 0x3F00 + r.pal.toNat * 4 + r.p.toNat := by
  have := r.p.isLt
  have := r.pal.isLt
  have hpal : (r.pal.setWidth 14 <<< 2 : BitVec 14).toNat = r.pal.toNat * 4 := by
    rw [BitVec.toNat_shiftLeft, BitVec.toNat_setWidth, Nat.shiftLeft_eq]
    omega
  rw [pixelAddr, BitVec.toNat_add, BitVec.toNat_add, hpal, BitVec.toNat_setWidth, BitVec.toNat_ofNat]
  omega

/-- A result that is not transparent shows its own entry (`63` R611). -/
theorem muxPixel_eq (bg : Pixel) (sp : SpritePixel) :
    muxPixel bg sp =
      if sp.px.p = 0 then if bg.p = 0 then Pixel.clear else bg
      else if bg.p = 0 ∨ sp.behind = false then sp.px else bg := by
  unfold muxPixel
  dsimp only
  by_cases hsp : sp.px.p = 0
  · rw [if_pos hsp, if_pos hsp]
  rw [if_neg hsp, if_neg hsp]
  by_cases hfront : bg.p = 0 ∨ sp.behind = false
  · rw [if_pos hfront, if_neg hsp]
  · rw [if_neg hfront, if_neg (fun h => hfront (.inl h))]

/-! ### The sprite pixel -/

section

variable (c : Cartridge) (p : Ppu) (s : Int) (col : Nat) (i : Fin 64)

theorem toNat_planeBits (hi lo : Byte) (b : Nat) :
    (planeBits hi lo b).toNat = hi.toNat / 2 ^ b % 2 * 2 + lo.toNat / 2 ^ b % 2 := by
  rw [planeBits, toNat_append_eq, BitVec.toNat_ofBool, BitVec.toNat_ofBool, toNat_getLsbD, toNat_getLsbD, Nat.pow_one]

/-- The pixel of object `i` with the bits `q` (`63` R600). -/
def objectPixel (p : Ppu) (i : Fin 64) (q : BitVec 2) : SpritePixel :=
  { px := { p := q, pal := 4#3 + ((objectByte p i 2).extractLsb' 0 2).setWidth 3 },
    behind := (objectByte p i 2).getLsbD 5, zero := decide (i.val = 0) }

/-- Object `i` lies at the column and the scanline (`63` R600; decisions D55, D57, D58). -/
def covers (p : Ppu) (s : Int) (col : Nat) (i : Fin 64) : Prop :=
  (objectByte p i 3).toNat ≤ col ∧ col ≤ (objectByte p i 3).toNat + 7
    ∧ ((objectByte p i 0).toNat : Int) + 1 ≤ s ∧ s ≤ (objectByte p i 0).toNat + height p

theorem oamByte_eq (j : Nat) : oamByte p i j = objectByte p i j := rfl

/-- An object that does not cover the position shows nothing. -/
theorem spritePixelOf_of_not_covers (h : ¬ covers p s col i) :
    spritePixelOf c p s col i = none ∧ objectBits c p s col i = 0 := by
  refine ⟨?_, if_neg h⟩
  unfold covers at h
  unfold spritePixelOf
  simp only [oamByte_eq, spriteHeight_eq]
  split
  · rfl
  · rw [if_pos (by omega)]

/-- An object that covers the position shows the two bits of its pattern there, unless both are 0. -/
theorem spritePixelOf_of_covers (h : covers p s col i) :
    spritePixelOf c p s col i =
      if objectBits c p s col i = 0 then none
      else some (objectPixel p i (BitVec.ofNat 2 (objectBits c p s col i))) := by
  have hbits : objectBits c p s col i = _ := if_pos h
  have hflip : (objectByte p i 2).getLsbD 6 = decide ((objectByte p i 2).toNat / 64 % 2 = 1) := getLsbD_eq_div _ 6
  unfold covers at h
  have hcol : ((col : Int) - ((objectByte p i 3).toNat : Int)).toNat = col - (objectByte p i 3).toNat := by omega
  unfold spritePixelOf
  simp only [oamByte_eq, spriteHeight_eq, hcol, hflip, decide_eq_true_eq]
  rw [if_neg (by omega), if_neg (by omega)]
  generalize hq : planeBits _ _ _ = q
  have hq' : q.toNat = objectBits c p s col i := by
    rw [← hq, toNat_planeBits, hbits]
    rfl
  have hzero : q = 0 ↔ q.toNat = 0 := BitVec.toNat_inj.symm
  rw [← hq', BitVec.ofNat_toNat, BitVec.setWidth_eq]
  simp only [hzero]
  rfl

/-- What an object shows is decided by its two bits. -/
theorem spritePixelOf_eq :
    spritePixelOf c p s col i =
      if objectBits c p s col i = 0 then none
      else some (objectPixel p i (BitVec.ofNat 2 (objectBits c p s col i))) := by
  by_cases h : covers p s col i
  · exact spritePixelOf_of_covers c p s col i h
  · obtain ⟨hnone, hbits⟩ := spritePixelOf_of_not_covers c p s col i h
    rw [hnone, if_pos hbits]

theorem objectBits_lt : objectBits c p s col i < 4 := by
  unfold objectBits
  dsimp only
  split <;> omega

theorem toNat_objectPixel_pal (q : BitVec 2) :
    (objectPixel p i q).px.pal.toNat = 4 + (objectByte p i 2).toNat % 4 := by
  show (4#3 + ((objectByte p i 2).extractLsb' 0 2).setWidth 3).toNat = _
  rw [BitVec.toNat_add, BitVec.toNat_setWidth, BitVec.extractLsb'_toNat, Nat.shiftRight_zero]
  show (4 + _) % 8 = _
  omega

/-- The sprites are enabled by mask bit 4 (`62` R511). -/
theorem sprEn_eq : p.sprEn = decide (p.mask.toNat / 16 % 2 = 1) := getLsbD_eq_div p.mask 4

variable {c p s col i}

/-- The first object of the list that shows bits supplies the pixel (`63` R600). -/
theorem spritePixel_of_first (hon : p.mask.toNat / 16 % 2 = 1) {pre post : List (Fin 64)}
    (hlist : p.sprList = pre ++ i :: post) (hpre : ∀ j ∈ pre, objectBits c p s col j = 0)
    (hi : objectBits c p s col i ≠ 0) :
    spritePixel c p s col = objectPixel p i (BitVec.ofNat 2 (objectBits c p s col i)) := by
  have hnone : pre.findSome? (spritePixelOf c p s col) = none :=
    List.findSome?_eq_none_iff.mpr fun j hj => by rw [spritePixelOf_eq, if_pos (hpre j hj)]
  have hsome : spritePixelOf c p s col i = some (objectPixel p i (BitVec.ofNat 2 (objectBits c p s col i))) := by
    rw [spritePixelOf_eq, if_neg hi]
  rw [spritePixel, sprEn_eq, decide_eq_true hon, if_pos rfl, hlist, List.findSome?_append, hnone,
    Option.none_or, List.findSome?_cons_of_isSome, hsome]
  · rfl
  · rw [hsome]
    rfl

/-- With the sprites off, or no object that shows bits, the sprite pixel is transparent (`63` R600). -/
theorem spritePixel_of_none (h : p.mask.toNat / 16 % 2 = 0 ∨ ∀ i ∈ p.sprList, objectBits c p s col i = 0) :
    spritePixel c p s col = SpritePixel.clear := by
  rw [spritePixel, sprEn_eq]
  split
  · rename_i hon
    rw [decide_eq_true_eq] at hon
    have hbits := h.resolve_left (by omega)
    have hnone : p.sprList.findSome? (spritePixelOf c p s col) = none :=
      List.findSome?_eq_none_iff.mpr fun j hj => by rw [spritePixelOf_eq, if_pos (hbits j hj)]
    rw [hnone]
    rfl
  · rfl

/-- Object 0 supplies the pixel only from the list. -/
theorem mem_sprList_of_zero (h : (spritePixel c p s col).zero = true) : (0 : Fin 64) ∈ p.sprList := by
  unfold spritePixel at h
  split at h
  · cases hfind : p.sprList.findSome? (spritePixelOf c p s col) with
    | none =>
      rw [hfind] at h
      exact absurd h (by decide)
    | some r =>
      rw [hfind] at h
      obtain ⟨i, hi, hr⟩ := List.exists_of_findSome?_eq_some hfind
      rw [spritePixelOf_eq] at hr
      split at hr
      · cases hr
      · obtain rfl := Option.some.inj hr
        have hzero : i = 0 := Fin.ext (of_decide_eq_true h)
        rwa [hzero] at hi
  · exact absurd h (by decide)

end

/-! ### The sprite-zero flag -/

section

variable (c : Cartridge) (p : Ppu)

/-- Where the sprite-zero flag rises (`63` R610). -/
structure HitsSpriteZero (c : Cartridge) (p : Ppu) : Prop where
  background : (bgPixel (atPixel c p)).p ≠ 0
  sprite     : (spritePixel c p p.scanline (p.cycle - 1)).px.p ≠ 0
  zero       : (spritePixel c p p.scanline (p.cycle - 1)).zero = true
  enabled    : p.mask.toNat / 8 % 4 = 3
  column     : p.mask.toNat / 2 % 4 = 3 ∨ 9 ≤ p.cycle

/-- The condition of the hit at cycle `k`, with the mask as a number (`63` R610). -/
theorem spriteZeroHit_iff (k : Nat) (bg : Pixel) (sp : SpritePixel) :
    spriteZeroHit p k bg sp = true ↔
      bg.p ≠ 0 ∧ sp.px.p ≠ 0 ∧ sp.zero = true ∧ p.mask.toNat / 8 % 4 = 3
        ∧ (p.mask.toNat / 2 % 4 = 3 ∨ 9 ≤ k) := by
  have henabled : p.bgEn = true ∧ p.sprEn = true ↔ p.mask.toNat / 8 % 4 = 3 := by
    rw [Ppu.bgEn, Ppu.sprEn, getLsbD_eq_div, getLsbD_eq_div, decide_eq_true_eq, decide_eq_true_eq]
    omega
  have hleft : p.bgLeft = true ∧ p.sprLeft = true ↔ p.mask.toNat / 2 % 4 = 3 := by
    rw [Ppu.bgLeft, Ppu.sprLeft, getLsbD_eq_div, getLsbD_eq_div, decide_eq_true_eq, decide_eq_true_eq]
    omega
  unfold spriteZeroHit
  simp only [Bool.and_eq_true, Bool.or_eq_true, decide_eq_true_eq, ← henabled, ← hleft]
  tauto

/-- The registers at the pixel of a visible clock, before it is drawn: those after the fetch step, but for IncY. -/
theorem beforePixel_eq_atPixel (h : visible p) : ∃ u, beforePixel c p = { atPixel c p with v := u } := by
  rw [beforePixel_of_visible c p h]
  unfold onlyIf
  split
  · exact incY_eq _
  · exact ⟨_, rfl⟩

theorem atPixel_spr0hit : (atPixel c p).spr0hit = p.spr0hit := by
  unfold atPixel
  split
  · obtain ⟨_, _, _, _, _, _, _, _, _, e⟩ := bgStep_eq c p p.cycle
    rw [e]
  · rfl

theorem advance_spr0hit : (advance p).spr0hit = p.spr0hit := by
  obtain ⟨_, _, e⟩ := advance_eq p
  rw [e]

/-- A clock at a visible position raises the flag where the rule says (`63` R610). -/
theorem ppuClock_spr0hit_of_visible (h : visible p) :
    (ppuClock c p).spr0hit = true ↔ p.spr0hit = true ∨ HitsSpriteZero c p := by
  have hclock : ppuClock c p = advance (drawPixel c p.scanline p.cycle (beforePixel c p)) := by
    unfold ppuClock
    dsimp only
    rw [decide_eq_true (p := 0 ≤ p.scanline ∧ p.scanline ≤ 239 ∧ 1 ≤ p.cycle ∧ p.cycle ≤ 256) h]
    rfl
  obtain ⟨u, hu⟩ := beforePixel_eq_atPixel c p h
  have hsame : SameRegisters p (beforePixel c p) := by
    rw [hu]
    exact (sameRegisters_atPixel c p).trans' (sameRegisters_v _ u)
  have hlist : (beforePixel c p).sprList = p.sprList := by
    rw [hu]
    exact atPixel_sprList c p
  have hbefore : (beforePixel c p).spr0hit = p.spr0hit := by
    rw [hu]
    exact atPixel_spr0hit c p
  have hbg : bgPixel (beforePixel c p) = bgPixel (atPixel c p) := by
    rw [hu]
    rfl
  rw [hclock, advance_spr0hit, drawPixel]
  dsimp only
  rw [Bool.or_eq_true, spriteZeroHit_iff, hbefore, hbg, spritePixel_congr hsame hlist, hsame.mask]
  exact or_congr Iff.rfl
    ⟨fun ⟨hb, hs, hz, he, hc⟩ => ⟨hb, hs, hz, he, hc⟩,
     fun h => ⟨h.background, h.sprite, h.zero, h.enabled, h.column⟩⟩

/-- Any other clock clears the flag at cycle 1 of the pre-render scanline, and elsewhere leaves it (`63` R567). -/
theorem ppuClock_spr0hit_of_not_visible (h : ¬ visible p) :
    (ppuClock c p).spr0hit = if p.scanline = -1 ∧ p.cycle = 1 then false else p.spr0hit := by
  have hclock : ppuClock c p = advance (beforePixel c p) := by
    unfold ppuClock
    dsimp only
    rw [decide_eq_false (p := 0 ≤ p.scanline ∧ p.scanline ≤ 239 ∧ 1 ≤ p.cycle ∧ p.cycle ≤ 256) h]
    rfl
  have hvblank : (beforePixel c p).spr0hit = (rendered c p).spr0hit :=
    onlyIf_keeps (P := fun q => q.spr0hit = (rendered c p).spr0hit) (f := vblankStart) (fun _ hq => hq) rfl
  obtain ⟨_, _, _, _, _, _, _, _, _, hrendered⟩ := rendered_shape c p
  rw [hclock, advance_spr0hit, hvblank, hrendered]
  dsimp only
  unfold spriteStep
  split
  · rw [if_neg (by omega)]
    rfl
  split <;> rfl

end

/-- The palette entry of the multiplexer's result (`63` R611, decision D43). -/
theorem toNat_pixelAddr_muxPixel (bg : Pixel) (sp : SpritePixel) :
    (bg.p = 0 → sp.px.p = 0 → (pixelAddr (muxPixel bg sp)).toNat = 0x3F00)
    ∧ (bg.p ≠ 0 → (sp.px.p = 0 ∨ sp.behind = true) →
      (pixelAddr (muxPixel bg sp)).toNat = 0x3F00 + bg.pal.toNat * 4 + bg.p.toNat)
    ∧ (sp.px.p ≠ 0 → (bg.p = 0 ∨ sp.behind = false) →
      (pixelAddr (muxPixel bg sp)).toNat = 0x3F00 + sp.px.pal.toNat * 4 + sp.px.p.toNat) := by
  refine ⟨fun hbg hsp => ?_, fun hbg hsp => ?_, fun hsp hfront => ?_⟩
  · rw [muxPixel_eq, if_pos hsp, if_pos hbg]
    rfl
  · have hmux : muxPixel bg sp = bg := by
      rw [muxPixel_eq, if_neg hbg]
      split
      · rfl
      · rename_i hopaque
        have hbehind : sp.behind = true := hsp.resolve_left hopaque
        rw [if_neg (fun hfront => hfront.elim hbg (by rw [hbehind]; decide))]
    rw [hmux, toNat_pixelAddr]
  · rw [muxPixel_eq, if_neg hsp, if_pos hfront, toNat_pixelAddr]

/-- Settles O54: the multiplexer, the first object that shows bits, and the flag at visible and other positions. -/
theorem pixelResolution : Obligations.PixelResolution := by
  refine ⟨toNat_pixelAddr_muxPixel, ?_, ?_⟩
  · intro c p s col r
    refine ⟨fun pre i post hon hlist hpre hi => ?_, fun hnone => ?_⟩
    · have hr : r = objectPixel p i (BitVec.ofNat 2 (objectBits c p s col i)) :=
        spritePixel_of_first hon hlist hpre hi
      rw [hr]
      refine ⟨?_, toNat_objectPixel_pal p i _, getLsbD_eq_div _ 5, ?_⟩
      · exact (BitVec.toNat_ofNat ..).trans (Nat.mod_eq_of_lt (objectBits_lt c p s col i))
      · exact decide_eq_decide.mpr Fin.val_eq_zero_iff
    · have hr : r = SpritePixel.clear := spritePixel_of_none hnone
      rw [hr]
      exact ⟨rfl, rfl, rfl, rfl⟩
  · intro c p bg sp
    refine ⟨fun hvisible hbg hsp hzero hon hcol => ?_, fun hlow hhigh => ?_, fun hhigh hlow => ?_⟩
    · exact (ppuClock_spr0hit_of_visible c p hvisible).mpr (.inr ⟨hbg, hsp, hzero, hon, hcol⟩)
    · by_cases hvisible : visible p
      · obtain h | h := (ppuClock_spr0hit_of_visible c p hvisible).mp hhigh
        · exact absurd (hlow.symm.trans h) (by decide)
        · exact ⟨hvisible, h.background, h.sprite, h.zero, h.enabled, mem_sprList_of_zero h.zero, h.column⟩
      · rw [ppuClock_spr0hit_of_not_visible c p hvisible, hlow, ite_self] at hhigh
        exact absurd hhigh (by decide)
    · by_cases hvisible : visible p
      · have hkeep := (ppuClock_spr0hit_of_visible c p hvisible).mpr (.inl hhigh)
        exact absurd (hlow.symm.trans hkeep) (by decide)
      · rw [ppuClock_spr0hit_of_not_visible c p hvisible, hhigh] at hlow
        by_contra hclear
        rw [if_neg hclear] at hlow
        exact absurd hlow (by decide)

end Sys2Proof.Machine
